-- ==== Sys2Proof/Word.lean ====
section
/-! DEFINITION. The Word and Byte types and the conversions between Words and numbers (00_scope.md R10 to R13). -/

namespace Sys2Proof

/-- One byte of code or data memory. -/
abbrev Byte := BitVec 8

/-- A Word: 256 bits, bit 255 the sign bit (R10). The unsigned reading `u(w)` is `w.toNat` and the signed
reading `s(w)` is `w.toInt` (R11). -/
abbrev Word := BitVec 256

/-- `word(v)` of R11 for a natural number: the Word whose unsigned reading is `v mod 2^256`. -/
abbrev natWord (v : Nat) : Word := BitVec.ofNat 256 v

/-- `word(v)` of R11 for any integer, negative ones included. -/
abbrev intWord (v : Int) : Word := BitVec.ofInt 256 v

/-- `ZERO` (R11). -/
abbrev zeroW : Word := natWord 0

/-- `ONE` (R11). -/
abbrev oneW : Word := natWord 1

/-- `MAXW`, all bits one (R11). -/
abbrev maxW : Word := natWord (2 ^ 256 - 1)

/-- `MINS`, only bit 255 set (R11). -/
abbrev minS : Word := natWord (2 ^ 255)

/-- `MAXS` (R11). -/
abbrev maxS : Word := natWord (2 ^ 255 - 1)

end Sys2Proof
end

