-- ==== Sys2Proof/Config.lean ====
section
/-! DEFINITION. What an implementation fixes (00_scope.md R8, R9): the constants of the source, and the OPEN
parameters MEM_LIMIT and CODE_MAX as plain data that a State carries unchanged through a run. -/

namespace Sys2Proof

/-- `STACK_MAX`: greatest stack depth (R8). -/
abbrev Config.stackMax : Nat := 1024

/-- `MEM_UNIT`: memory grows in multiples of this many bytes (R8). -/
abbrev Config.memUnit : Nat := 32

/-- `PUSH_MAX`: greatest immediate length, so that `1 + pushMax` bytes is the longest instruction (R8, R90). -/
abbrev Config.pushMax : Nat := 32

/-- The OPEN parameters of R9. MEM_LIMIT is "a natural number, multiple of 32", so its number of 32-byte units is
kept (D10); CODE_MAX is a natural number (D11). They are a field of State, "parameters fixed for its whole duration"
(10_state.md R21), so a statement about every State is a statement about every value of them (log 3). -/
structure Config where
  memUnits : Nat
  codeMax  : Nat
deriving DecidableEq, Repr

/-- `MEM_LIMIT`, the greatest memory length in bytes (R9, 20_memory.md R68). -/
def Config.memLimit (c : Config) : Nat := Config.memUnit * c.memUnits

end Sys2Proof
end

