-- ==== Sys2Proof/Machine/Bytes.lean ====
section
/-! DEFINITION. Byte order: big-endian everywhere (20_memory.md R69), and the bytes of a Word (00_scope.md R10). -/

namespace Sys2Proof

/-- The natural number a byte sequence stands for, first byte most significant (R69). -/
def bytesToNat (bs : List Byte) : Nat :=
  bs.foldl (fun acc b => acc * 256 + b.toNat) 0

/-- The low `n` bytes of `v`, most significant first (R69). -/
def natToBytes : Nat → Nat → List Byte
  | 0, _ => []
  | n + 1, v => BitVec.ofNat 8 (v / 256 ^ n) :: natToBytes n v

/-- The first `n` bytes of a sequence, missing trailing bytes read as 0x00 (30_encoding.md R92). -/
def padTo : Nat → List Byte → List Byte
  | 0, _ => []
  | n + 1, [] => 0 :: padTo n []
  | n + 1, b :: bs => b :: padTo n bs

/-- `byte(w, i) = w[255 - 8*i : 248 - 8*i]` for `i` in 0..31, counted from the most significant byte (R10). -/
def byteAt (w : Word) (i : Nat) : Byte := w.extractLsb' (248 - 8 * i) 8

/-- The 32 bytes of a Word, most significant first (R64, R69). -/
def wordBytes (w : Word) : List Byte := natToBytes 32 w.toNat

/-- The Word whose big-endian bytes are these (R63, 44_memory_hash.md R264). -/
def bytesWord (bs : List Byte) : Word := natWord (bytesToNat bs)

end Sys2Proof
end

