-- ==== Sys2Proof/Syntax.lean ====
section
/-! DEFINITION. The instructions: one constructor per row of spec/opcode_table.json, in opcode order
(30_encoding.md R94, R96). PUSH1..PUSH32 carry their assembled immediate (R92); no other instruction has an operand
field: "the opcode byte alone selects the instruction" (R90). -/

namespace Sys2Proof

/-- The 256 instructions. `unassigned..` are the 143 byte values of R96, each a row of the table. -/
inductive Instr where
  /-- STOP (R284). -/
  | stop
  /-- ADD (R221). -/
  | add
  /-- MUL (R222). -/
  | mul
  /-- SUB (R223). -/
  | sub
  /-- DIV (R224). -/
  | div
  /-- SDIV (R225). -/
  | sdiv
  /-- MOD (R226). -/
  | mod
  /-- SMOD (R227). -/
  | smod
  /-- ADDMOD (R228). -/
  | addmod
  /-- MULMOD (R229). -/
  | mulmod
  /-- EXP (R230). -/
  | exp
  /-- SIGNEXTEND (R231). -/
  | signextend
  | unassigned0C
  | unassigned0D
  | unassigned0E
  | unassigned0F
  /-- LT (R241). -/
  | lt
  /-- GT (R242). -/
  | gt
  /-- SLT (R243). -/
  | slt
  /-- SGT (R244). -/
  | sgt
  /-- EQ (R245). -/
  | eq
  /-- ISZERO (R246). -/
  | iszero
  /-- AND (R247). -/
  | and
  /-- OR (R248). -/
  | or
  /-- XOR (R249). -/
  | xor
  /-- NOT (R250). -/
  | not
  /-- BYTE (R251). -/
  | byte
  /-- SHL (R252). -/
  | shl
  /-- SHR (R253). -/
  | shr
  /-- SAR (R254). -/
  | sar
  | unassigned1E
  | unassigned1F
  /-- KECCAK256 (R264). -/
  | keccak256
  | unassigned21
  | unassigned22
  | unassigned23
  | unassigned24
  | unassigned25
  | unassigned26
  | unassigned27
  | unassigned28
  | unassigned29
  | unassigned2A
  | unassigned2B
  | unassigned2C
  | unassigned2D
  | unassigned2E
  | unassigned2F
  /-- ADDRESS (R301). -/
  | address
  | unassigned31
  /-- ORIGIN (R302). -/
  | origin
  /-- CALLER (R303). -/
  | caller
  | unassigned34
  | unassigned35
  | unassigned36
  | unassigned37
  | unassigned38
  | unassigned39
  /-- GASPRICE (R304). -/
  | gasprice
  | unassigned3B
  | unassigned3C
  | unassigned3D
  | unassigned3E
  | unassigned3F
  | unassigned40
  /-- COINBASE (R305). -/
  | coinbase
  /-- TIMESTAMP (R306). -/
  | timestamp
  /-- NUMBER (R307). -/
  | number
  /-- DIFFICULTY (R308). -/
  | difficulty
  /-- GASLIMIT (R309). -/
  | gaslimit
  /-- CHAINID (R310). -/
  | chainid
  | unassigned47
  /-- BASEFEE (R311). -/
  | basefee
  | unassigned49
  | unassigned4A
  | unassigned4B
  | unassigned4C
  | unassigned4D
  | unassigned4E
  | unassigned4F
  /-- POP (R141). -/
  | pop
  /-- MLOAD (R260). -/
  | mload
  /-- MSTORE (R261). -/
  | mstore
  /-- MSTORE8 (R262). -/
  | mstore8
  | unassigned54
  | unassigned55
  /-- JUMP (R281). -/
  | jump
  /-- JUMPI (R282). -/
  | jumpi
  /-- PC (R283). -/
  | pc
  /-- MSIZE (R263). -/
  | msize
  /-- GAS (R312). -/
  | gas
  /-- JUMPDEST (R280). -/
  | jumpdest
  | unassigned5C
  | unassigned5D
  | unassigned5E
  | unassigned5F
  /-- PUSH1 (R143). -/
  | push1 (imm : Word)
  /-- PUSH2 (R144). -/
  | push2 (imm : Word)
  /-- PUSH3 (R145). -/
  | push3 (imm : Word)
  /-- PUSH4 (R146). -/
  | push4 (imm : Word)
  /-- PUSH5 (R147). -/
  | push5 (imm : Word)
  /-- PUSH6 (R148). -/
  | push6 (imm : Word)
  /-- PUSH7 (R149). -/
  | push7 (imm : Word)
  /-- PUSH8 (R150). -/
  | push8 (imm : Word)
  /-- PUSH9 (R151). -/
  | push9 (imm : Word)
  /-- PUSH10 (R152). -/
  | push10 (imm : Word)
  /-- PUSH11 (R153). -/
  | push11 (imm : Word)
  /-- PUSH12 (R154). -/
  | push12 (imm : Word)
  /-- PUSH13 (R155). -/
  | push13 (imm : Word)
  /-- PUSH14 (R156). -/
  | push14 (imm : Word)
  /-- PUSH15 (R157). -/
  | push15 (imm : Word)
  /-- PUSH16 (R158). -/
  | push16 (imm : Word)
  /-- PUSH17 (R159). -/
  | push17 (imm : Word)
  /-- PUSH18 (R160). -/
  | push18 (imm : Word)
  /-- PUSH19 (R161). -/
  | push19 (imm : Word)
  /-- PUSH20 (R162). -/
  | push20 (imm : Word)
  /-- PUSH21 (R163). -/
  | push21 (imm : Word)
  /-- PUSH22 (R164). -/
  | push22 (imm : Word)
  /-- PUSH23 (R165). -/
  | push23 (imm : Word)
  /-- PUSH24 (R166). -/
  | push24 (imm : Word)
  /-- PUSH25 (R167). -/
  | push25 (imm : Word)
  /-- PUSH26 (R168). -/
  | push26 (imm : Word)
  /-- PUSH27 (R169). -/
  | push27 (imm : Word)
  /-- PUSH28 (R170). -/
  | push28 (imm : Word)
  /-- PUSH29 (R171). -/
  | push29 (imm : Word)
  /-- PUSH30 (R172). -/
  | push30 (imm : Word)
  /-- PUSH31 (R173). -/
  | push31 (imm : Word)
  /-- PUSH32 (R174). -/
  | push32 (imm : Word)
  /-- DUP1 (R176). -/
  | dup1
  /-- DUP2 (R177). -/
  | dup2
  /-- DUP3 (R178). -/
  | dup3
  /-- DUP4 (R179). -/
  | dup4
  /-- DUP5 (R180). -/
  | dup5
  /-- DUP6 (R181). -/
  | dup6
  /-- DUP7 (R182). -/
  | dup7
  /-- DUP8 (R183). -/
  | dup8
  /-- DUP9 (R184). -/
  | dup9
  /-- DUP10 (R185). -/
  | dup10
  /-- DUP11 (R186). -/
  | dup11
  /-- DUP12 (R187). -/
  | dup12
  /-- DUP13 (R188). -/
  | dup13
  /-- DUP14 (R189). -/
  | dup14
  /-- DUP15 (R190). -/
  | dup15
  /-- DUP16 (R191). -/
  | dup16
  /-- SWAP1 (R193). -/
  | swap1
  /-- SWAP2 (R194). -/
  | swap2
  /-- SWAP3 (R195). -/
  | swap3
  /-- SWAP4 (R196). -/
  | swap4
  /-- SWAP5 (R197). -/
  | swap5
  /-- SWAP6 (R198). -/
  | swap6
  /-- SWAP7 (R199). -/
  | swap7
  /-- SWAP8 (R200). -/
  | swap8
  /-- SWAP9 (R201). -/
  | swap9
  /-- SWAP10 (R202). -/
  | swap10
  /-- SWAP11 (R203). -/
  | swap11
  /-- SWAP12 (R204). -/
  | swap12
  /-- SWAP13 (R205). -/
  | swap13
  /-- SWAP14 (R206). -/
  | swap14
  /-- SWAP15 (R207). -/
  | swap15
  /-- SWAP16 (R208). -/
  | swap16
  | unassignedA0
  | unassignedA1
  | unassignedA2
  | unassignedA3
  | unassignedA4
  | unassignedA5
  | unassignedA6
  | unassignedA7
  | unassignedA8
  | unassignedA9
  | unassignedAA
  | unassignedAB
  | unassignedAC
  | unassignedAD
  | unassignedAE
  | unassignedAF
  | unassignedB0
  | unassignedB1
  | unassignedB2
  | unassignedB3
  | unassignedB4
  | unassignedB5
  | unassignedB6
  | unassignedB7
  | unassignedB8
  | unassignedB9
  | unassignedBA
  | unassignedBB
  | unassignedBC
  | unassignedBD
  | unassignedBE
  | unassignedBF
  | unassignedC0
  | unassignedC1
  | unassignedC2
  | unassignedC3
  | unassignedC4
  | unassignedC5
  | unassignedC6
  | unassignedC7
  | unassignedC8
  | unassignedC9
  | unassignedCA
  | unassignedCB
  | unassignedCC
  | unassignedCD
  | unassignedCE
  | unassignedCF
  | unassignedD0
  | unassignedD1
  | unassignedD2
  | unassignedD3
  | unassignedD4
  | unassignedD5
  | unassignedD6
  | unassignedD7
  | unassignedD8
  | unassignedD9
  | unassignedDA
  | unassignedDB
  | unassignedDC
  | unassignedDD
  | unassignedDE
  | unassignedDF
  | unassignedE0
  | unassignedE1
  | unassignedE2
  | unassignedE3
  | unassignedE4
  | unassignedE5
  | unassignedE6
  | unassignedE7
  | unassignedE8
  | unassignedE9
  | unassignedEA
  | unassignedEB
  | unassignedEC
  | unassignedED
  | unassignedEE
  | unassignedEF
  | unassignedF0
  | unassignedF1
  | unassignedF2
  | unassignedF3
  | unassignedF4
  | unassignedF5
  | unassignedF6
  | unassignedF7
  | unassignedF8
  | unassignedF9
  | unassignedFA
  | unassignedFB
  | unassignedFC
  | unassignedFD
  /-- INVALID (R285). -/
  | invalid
  | unassignedFF
deriving DecidableEq, Repr

/-- The row's name in spec/opcode_table.json; for an assigned opcode the mnemonic of the assembler notation (R99). -/
def Instr.mnemonic : Instr → String
  | .stop => "STOP"
  | .add => "ADD"
  | .mul => "MUL"
  | .sub => "SUB"
  | .div => "DIV"
  | .sdiv => "SDIV"
  | .mod => "MOD"
  | .smod => "SMOD"
  | .addmod => "ADDMOD"
  | .mulmod => "MULMOD"
  | .exp => "EXP"
  | .signextend => "SIGNEXTEND"
  | .unassigned0C => "UNASSIGNED_0C"
  | .unassigned0D => "UNASSIGNED_0D"
  | .unassigned0E => "UNASSIGNED_0E"
  | .unassigned0F => "UNASSIGNED_0F"
  | .lt => "LT"
  | .gt => "GT"
  | .slt => "SLT"
  | .sgt => "SGT"
  | .eq => "EQ"
  | .iszero => "ISZERO"
  | .and => "AND"
  | .or => "OR"
  | .xor => "XOR"
  | .not => "NOT"
  | .byte => "BYTE"
  | .shl => "SHL"
  | .shr => "SHR"
  | .sar => "SAR"
  | .unassigned1E => "UNASSIGNED_1E"
  | .unassigned1F => "UNASSIGNED_1F"
  | .keccak256 => "KECCAK256"
  | .unassigned21 => "UNASSIGNED_21"
  | .unassigned22 => "UNASSIGNED_22"
  | .unassigned23 => "UNASSIGNED_23"
  | .unassigned24 => "UNASSIGNED_24"
  | .unassigned25 => "UNASSIGNED_25"
  | .unassigned26 => "UNASSIGNED_26"
  | .unassigned27 => "UNASSIGNED_27"
  | .unassigned28 => "UNASSIGNED_28"
  | .unassigned29 => "UNASSIGNED_29"
  | .unassigned2A => "UNASSIGNED_2A"
  | .unassigned2B => "UNASSIGNED_2B"
  | .unassigned2C => "UNASSIGNED_2C"
  | .unassigned2D => "UNASSIGNED_2D"
  | .unassigned2E => "UNASSIGNED_2E"
  | .unassigned2F => "UNASSIGNED_2F"
  | .address => "ADDRESS"
  | .unassigned31 => "UNASSIGNED_31"
  | .origin => "ORIGIN"
  | .caller => "CALLER"
  | .unassigned34 => "UNASSIGNED_34"
  | .unassigned35 => "UNASSIGNED_35"
  | .unassigned36 => "UNASSIGNED_36"
  | .unassigned37 => "UNASSIGNED_37"
  | .unassigned38 => "UNASSIGNED_38"
  | .unassigned39 => "UNASSIGNED_39"
  | .gasprice => "GASPRICE"
  | .unassigned3B => "UNASSIGNED_3B"
  | .unassigned3C => "UNASSIGNED_3C"
  | .unassigned3D => "UNASSIGNED_3D"
  | .unassigned3E => "UNASSIGNED_3E"
  | .unassigned3F => "UNASSIGNED_3F"
  | .unassigned40 => "UNASSIGNED_40"
  | .coinbase => "COINBASE"
  | .timestamp => "TIMESTAMP"
  | .number => "NUMBER"
  | .difficulty => "DIFFICULTY"
  | .gaslimit => "GASLIMIT"
  | .chainid => "CHAINID"
  | .unassigned47 => "UNASSIGNED_47"
  | .basefee => "BASEFEE"
  | .unassigned49 => "UNASSIGNED_49"
  | .unassigned4A => "UNASSIGNED_4A"
  | .unassigned4B => "UNASSIGNED_4B"
  | .unassigned4C => "UNASSIGNED_4C"
  | .unassigned4D => "UNASSIGNED_4D"
  | .unassigned4E => "UNASSIGNED_4E"
  | .unassigned4F => "UNASSIGNED_4F"
  | .pop => "POP"
  | .mload => "MLOAD"
  | .mstore => "MSTORE"
  | .mstore8 => "MSTORE8"
  | .unassigned54 => "UNASSIGNED_54"
  | .unassigned55 => "UNASSIGNED_55"
  | .jump => "JUMP"
  | .jumpi => "JUMPI"
  | .pc => "PC"
  | .msize => "MSIZE"
  | .gas => "GAS"
  | .jumpdest => "JUMPDEST"
  | .unassigned5C => "UNASSIGNED_5C"
  | .unassigned5D => "UNASSIGNED_5D"
  | .unassigned5E => "UNASSIGNED_5E"
  | .unassigned5F => "UNASSIGNED_5F"
  | .push1 _ => "PUSH1"
  | .push2 _ => "PUSH2"
  | .push3 _ => "PUSH3"
  | .push4 _ => "PUSH4"
  | .push5 _ => "PUSH5"
  | .push6 _ => "PUSH6"
  | .push7 _ => "PUSH7"
  | .push8 _ => "PUSH8"
  | .push9 _ => "PUSH9"
  | .push10 _ => "PUSH10"
  | .push11 _ => "PUSH11"
  | .push12 _ => "PUSH12"
  | .push13 _ => "PUSH13"
  | .push14 _ => "PUSH14"
  | .push15 _ => "PUSH15"
  | .push16 _ => "PUSH16"
  | .push17 _ => "PUSH17"
  | .push18 _ => "PUSH18"
  | .push19 _ => "PUSH19"
  | .push20 _ => "PUSH20"
  | .push21 _ => "PUSH21"
  | .push22 _ => "PUSH22"
  | .push23 _ => "PUSH23"
  | .push24 _ => "PUSH24"
  | .push25 _ => "PUSH25"
  | .push26 _ => "PUSH26"
  | .push27 _ => "PUSH27"
  | .push28 _ => "PUSH28"
  | .push29 _ => "PUSH29"
  | .push30 _ => "PUSH30"
  | .push31 _ => "PUSH31"
  | .push32 _ => "PUSH32"
  | .dup1 => "DUP1"
  | .dup2 => "DUP2"
  | .dup3 => "DUP3"
  | .dup4 => "DUP4"
  | .dup5 => "DUP5"
  | .dup6 => "DUP6"
  | .dup7 => "DUP7"
  | .dup8 => "DUP8"
  | .dup9 => "DUP9"
  | .dup10 => "DUP10"
  | .dup11 => "DUP11"
  | .dup12 => "DUP12"
  | .dup13 => "DUP13"
  | .dup14 => "DUP14"
  | .dup15 => "DUP15"
  | .dup16 => "DUP16"
  | .swap1 => "SWAP1"
  | .swap2 => "SWAP2"
  | .swap3 => "SWAP3"
  | .swap4 => "SWAP4"
  | .swap5 => "SWAP5"
  | .swap6 => "SWAP6"
  | .swap7 => "SWAP7"
  | .swap8 => "SWAP8"
  | .swap9 => "SWAP9"
  | .swap10 => "SWAP10"
  | .swap11 => "SWAP11"
  | .swap12 => "SWAP12"
  | .swap13 => "SWAP13"
  | .swap14 => "SWAP14"
  | .swap15 => "SWAP15"
  | .swap16 => "SWAP16"
  | .unassignedA0 => "UNASSIGNED_A0"
  | .unassignedA1 => "UNASSIGNED_A1"
  | .unassignedA2 => "UNASSIGNED_A2"
  | .unassignedA3 => "UNASSIGNED_A3"
  | .unassignedA4 => "UNASSIGNED_A4"
  | .unassignedA5 => "UNASSIGNED_A5"
  | .unassignedA6 => "UNASSIGNED_A6"
  | .unassignedA7 => "UNASSIGNED_A7"
  | .unassignedA8 => "UNASSIGNED_A8"
  | .unassignedA9 => "UNASSIGNED_A9"
  | .unassignedAA => "UNASSIGNED_AA"
  | .unassignedAB => "UNASSIGNED_AB"
  | .unassignedAC => "UNASSIGNED_AC"
  | .unassignedAD => "UNASSIGNED_AD"
  | .unassignedAE => "UNASSIGNED_AE"
  | .unassignedAF => "UNASSIGNED_AF"
  | .unassignedB0 => "UNASSIGNED_B0"
  | .unassignedB1 => "UNASSIGNED_B1"
  | .unassignedB2 => "UNASSIGNED_B2"
  | .unassignedB3 => "UNASSIGNED_B3"
  | .unassignedB4 => "UNASSIGNED_B4"
  | .unassignedB5 => "UNASSIGNED_B5"
  | .unassignedB6 => "UNASSIGNED_B6"
  | .unassignedB7 => "UNASSIGNED_B7"
  | .unassignedB8 => "UNASSIGNED_B8"
  | .unassignedB9 => "UNASSIGNED_B9"
  | .unassignedBA => "UNASSIGNED_BA"
  | .unassignedBB => "UNASSIGNED_BB"
  | .unassignedBC => "UNASSIGNED_BC"
  | .unassignedBD => "UNASSIGNED_BD"
  | .unassignedBE => "UNASSIGNED_BE"
  | .unassignedBF => "UNASSIGNED_BF"
  | .unassignedC0 => "UNASSIGNED_C0"
  | .unassignedC1 => "UNASSIGNED_C1"
  | .unassignedC2 => "UNASSIGNED_C2"
  | .unassignedC3 => "UNASSIGNED_C3"
  | .unassignedC4 => "UNASSIGNED_C4"
  | .unassignedC5 => "UNASSIGNED_C5"
  | .unassignedC6 => "UNASSIGNED_C6"
  | .unassignedC7 => "UNASSIGNED_C7"
  | .unassignedC8 => "UNASSIGNED_C8"
  | .unassignedC9 => "UNASSIGNED_C9"
  | .unassignedCA => "UNASSIGNED_CA"
  | .unassignedCB => "UNASSIGNED_CB"
  | .unassignedCC => "UNASSIGNED_CC"
  | .unassignedCD => "UNASSIGNED_CD"
  | .unassignedCE => "UNASSIGNED_CE"
  | .unassignedCF => "UNASSIGNED_CF"
  | .unassignedD0 => "UNASSIGNED_D0"
  | .unassignedD1 => "UNASSIGNED_D1"
  | .unassignedD2 => "UNASSIGNED_D2"
  | .unassignedD3 => "UNASSIGNED_D3"
  | .unassignedD4 => "UNASSIGNED_D4"
  | .unassignedD5 => "UNASSIGNED_D5"
  | .unassignedD6 => "UNASSIGNED_D6"
  | .unassignedD7 => "UNASSIGNED_D7"
  | .unassignedD8 => "UNASSIGNED_D8"
  | .unassignedD9 => "UNASSIGNED_D9"
  | .unassignedDA => "UNASSIGNED_DA"
  | .unassignedDB => "UNASSIGNED_DB"
  | .unassignedDC => "UNASSIGNED_DC"
  | .unassignedDD => "UNASSIGNED_DD"
  | .unassignedDE => "UNASSIGNED_DE"
  | .unassignedDF => "UNASSIGNED_DF"
  | .unassignedE0 => "UNASSIGNED_E0"
  | .unassignedE1 => "UNASSIGNED_E1"
  | .unassignedE2 => "UNASSIGNED_E2"
  | .unassignedE3 => "UNASSIGNED_E3"
  | .unassignedE4 => "UNASSIGNED_E4"
  | .unassignedE5 => "UNASSIGNED_E5"
  | .unassignedE6 => "UNASSIGNED_E6"
  | .unassignedE7 => "UNASSIGNED_E7"
  | .unassignedE8 => "UNASSIGNED_E8"
  | .unassignedE9 => "UNASSIGNED_E9"
  | .unassignedEA => "UNASSIGNED_EA"
  | .unassignedEB => "UNASSIGNED_EB"
  | .unassignedEC => "UNASSIGNED_EC"
  | .unassignedED => "UNASSIGNED_ED"
  | .unassignedEE => "UNASSIGNED_EE"
  | .unassignedEF => "UNASSIGNED_EF"
  | .unassignedF0 => "UNASSIGNED_F0"
  | .unassignedF1 => "UNASSIGNED_F1"
  | .unassignedF2 => "UNASSIGNED_F2"
  | .unassignedF3 => "UNASSIGNED_F3"
  | .unassignedF4 => "UNASSIGNED_F4"
  | .unassignedF5 => "UNASSIGNED_F5"
  | .unassignedF6 => "UNASSIGNED_F6"
  | .unassignedF7 => "UNASSIGNED_F7"
  | .unassignedF8 => "UNASSIGNED_F8"
  | .unassignedF9 => "UNASSIGNED_F9"
  | .unassignedFA => "UNASSIGNED_FA"
  | .unassignedFB => "UNASSIGNED_FB"
  | .unassignedFC => "UNASSIGNED_FC"
  | .unassignedFD => "UNASSIGNED_FD"
  | .invalid => "INVALID"
  | .unassignedFF => "UNASSIGNED_FF"

end Sys2Proof
end

