-- ==== Sys2Proof/WellFormed.lean ====
section
/-! DEFINITION. Which terms of `Instr` stand for an instruction of the hardware: the immediate of PUSHN is N bytes, so
its value "must be below `256^N`" (30_encoding.md R99, R92). -/

namespace Sys2Proof

/-- The immediate fits its `n` bytes (R99). -/
def immFits (n : Nat) (imm : Word) : Bool := decide (imm.toNat < 256 ^ n)

/-- A well-formed instruction: for PUSHN the immediate fits N bytes; every other instruction has no operand field. -/
def WellFormed : Instr → Bool
  | .stop => true
  | .add => true
  | .mul => true
  | .sub => true
  | .div => true
  | .sdiv => true
  | .mod => true
  | .smod => true
  | .addmod => true
  | .mulmod => true
  | .exp => true
  | .signextend => true
  | .unassigned0C => true
  | .unassigned0D => true
  | .unassigned0E => true
  | .unassigned0F => true
  | .lt => true
  | .gt => true
  | .slt => true
  | .sgt => true
  | .eq => true
  | .iszero => true
  | .and => true
  | .or => true
  | .xor => true
  | .not => true
  | .byte => true
  | .shl => true
  | .shr => true
  | .sar => true
  | .unassigned1E => true
  | .unassigned1F => true
  | .keccak256 => true
  | .unassigned21 => true
  | .unassigned22 => true
  | .unassigned23 => true
  | .unassigned24 => true
  | .unassigned25 => true
  | .unassigned26 => true
  | .unassigned27 => true
  | .unassigned28 => true
  | .unassigned29 => true
  | .unassigned2A => true
  | .unassigned2B => true
  | .unassigned2C => true
  | .unassigned2D => true
  | .unassigned2E => true
  | .unassigned2F => true
  | .address => true
  | .unassigned31 => true
  | .origin => true
  | .caller => true
  | .unassigned34 => true
  | .unassigned35 => true
  | .unassigned36 => true
  | .unassigned37 => true
  | .unassigned38 => true
  | .unassigned39 => true
  | .gasprice => true
  | .unassigned3B => true
  | .unassigned3C => true
  | .unassigned3D => true
  | .unassigned3E => true
  | .unassigned3F => true
  | .unassigned40 => true
  | .coinbase => true
  | .timestamp => true
  | .number => true
  | .difficulty => true
  | .gaslimit => true
  | .chainid => true
  | .unassigned47 => true
  | .basefee => true
  | .unassigned49 => true
  | .unassigned4A => true
  | .unassigned4B => true
  | .unassigned4C => true
  | .unassigned4D => true
  | .unassigned4E => true
  | .unassigned4F => true
  | .pop => true
  | .mload => true
  | .mstore => true
  | .mstore8 => true
  | .unassigned54 => true
  | .unassigned55 => true
  | .jump => true
  | .jumpi => true
  | .pc => true
  | .msize => true
  | .gas => true
  | .jumpdest => true
  | .unassigned5C => true
  | .unassigned5D => true
  | .unassigned5E => true
  | .unassigned5F => true
  | .push1 imm => immFits 1 imm
  | .push2 imm => immFits 2 imm
  | .push3 imm => immFits 3 imm
  | .push4 imm => immFits 4 imm
  | .push5 imm => immFits 5 imm
  | .push6 imm => immFits 6 imm
  | .push7 imm => immFits 7 imm
  | .push8 imm => immFits 8 imm
  | .push9 imm => immFits 9 imm
  | .push10 imm => immFits 10 imm
  | .push11 imm => immFits 11 imm
  | .push12 imm => immFits 12 imm
  | .push13 imm => immFits 13 imm
  | .push14 imm => immFits 14 imm
  | .push15 imm => immFits 15 imm
  | .push16 imm => immFits 16 imm
  | .push17 imm => immFits 17 imm
  | .push18 imm => immFits 18 imm
  | .push19 imm => immFits 19 imm
  | .push20 imm => immFits 20 imm
  | .push21 imm => immFits 21 imm
  | .push22 imm => immFits 22 imm
  | .push23 imm => immFits 23 imm
  | .push24 imm => immFits 24 imm
  | .push25 imm => immFits 25 imm
  | .push26 imm => immFits 26 imm
  | .push27 imm => immFits 27 imm
  | .push28 imm => immFits 28 imm
  | .push29 imm => immFits 29 imm
  | .push30 imm => immFits 30 imm
  | .push31 imm => immFits 31 imm
  | .push32 imm => immFits 32 imm
  | .dup1 => true
  | .dup2 => true
  | .dup3 => true
  | .dup4 => true
  | .dup5 => true
  | .dup6 => true
  | .dup7 => true
  | .dup8 => true
  | .dup9 => true
  | .dup10 => true
  | .dup11 => true
  | .dup12 => true
  | .dup13 => true
  | .dup14 => true
  | .dup15 => true
  | .dup16 => true
  | .swap1 => true
  | .swap2 => true
  | .swap3 => true
  | .swap4 => true
  | .swap5 => true
  | .swap6 => true
  | .swap7 => true
  | .swap8 => true
  | .swap9 => true
  | .swap10 => true
  | .swap11 => true
  | .swap12 => true
  | .swap13 => true
  | .swap14 => true
  | .swap15 => true
  | .swap16 => true
  | .unassignedA0 => true
  | .unassignedA1 => true
  | .unassignedA2 => true
  | .unassignedA3 => true
  | .unassignedA4 => true
  | .unassignedA5 => true
  | .unassignedA6 => true
  | .unassignedA7 => true
  | .unassignedA8 => true
  | .unassignedA9 => true
  | .unassignedAA => true
  | .unassignedAB => true
  | .unassignedAC => true
  | .unassignedAD => true
  | .unassignedAE => true
  | .unassignedAF => true
  | .unassignedB0 => true
  | .unassignedB1 => true
  | .unassignedB2 => true
  | .unassignedB3 => true
  | .unassignedB4 => true
  | .unassignedB5 => true
  | .unassignedB6 => true
  | .unassignedB7 => true
  | .unassignedB8 => true
  | .unassignedB9 => true
  | .unassignedBA => true
  | .unassignedBB => true
  | .unassignedBC => true
  | .unassignedBD => true
  | .unassignedBE => true
  | .unassignedBF => true
  | .unassignedC0 => true
  | .unassignedC1 => true
  | .unassignedC2 => true
  | .unassignedC3 => true
  | .unassignedC4 => true
  | .unassignedC5 => true
  | .unassignedC6 => true
  | .unassignedC7 => true
  | .unassignedC8 => true
  | .unassignedC9 => true
  | .unassignedCA => true
  | .unassignedCB => true
  | .unassignedCC => true
  | .unassignedCD => true
  | .unassignedCE => true
  | .unassignedCF => true
  | .unassignedD0 => true
  | .unassignedD1 => true
  | .unassignedD2 => true
  | .unassignedD3 => true
  | .unassignedD4 => true
  | .unassignedD5 => true
  | .unassignedD6 => true
  | .unassignedD7 => true
  | .unassignedD8 => true
  | .unassignedD9 => true
  | .unassignedDA => true
  | .unassignedDB => true
  | .unassignedDC => true
  | .unassignedDD => true
  | .unassignedDE => true
  | .unassignedDF => true
  | .unassignedE0 => true
  | .unassignedE1 => true
  | .unassignedE2 => true
  | .unassignedE3 => true
  | .unassignedE4 => true
  | .unassignedE5 => true
  | .unassignedE6 => true
  | .unassignedE7 => true
  | .unassignedE8 => true
  | .unassignedE9 => true
  | .unassignedEA => true
  | .unassignedEB => true
  | .unassignedEC => true
  | .unassignedED => true
  | .unassignedEE => true
  | .unassignedEF => true
  | .unassignedF0 => true
  | .unassignedF1 => true
  | .unassignedF2 => true
  | .unassignedF3 => true
  | .unassignedF4 => true
  | .unassignedF5 => true
  | .unassignedF6 => true
  | .unassignedF7 => true
  | .unassignedF8 => true
  | .unassignedF9 => true
  | .unassignedFA => true
  | .unassignedFB => true
  | .unassignedFC => true
  | .unassignedFD => true
  | .invalid => true
  | .unassignedFF => true

end Sys2Proof
end

