-- ==== Sys2Proof/Decode.lean ====
section
/-! DEFINITION. The decoder, total on bytes (30_encoding.md R90 to R97), and the encoder written from the same tables. -/

namespace Sys2Proof

/-- `N` of a PUSH opcode, `op - 0x5F` for 0x60..0x7F, and 0 for every other byte (R91, R93). -/
def immLen (op : Byte) : Nat :=
  if 0x60 ≤ op.toNat ∧ op.toNat ≤ 0x7F then op.toNat - 0x5F else 0

/-- `len(op)`: the length of an instruction, found from its opcode byte alone (R91). -/
def opLen (op : Byte) : Nat := 1 + immLen op

/-- The immediate of `n` bytes at the head of `rest`: zero-extended, missing low-order bytes 0x00 (R92). -/
def immediate (n : Nat) (rest : List Byte) : Word := bytesWord (padTo n rest)

/-- A row of the opcode map without an immediate. -/
def plainRow (i : Instr) : Word → Instr := fun _ => i

/-- The opcode map, bytes 0x00..0x0F (R94, R96). -/
def opcodeRow0 : List (Word → Instr) :=
  [ plainRow .stop, plainRow .add, plainRow .mul, plainRow .sub,
    plainRow .div, plainRow .sdiv, plainRow .mod, plainRow .smod,
    plainRow .addmod, plainRow .mulmod, plainRow .exp, plainRow .signextend,
    plainRow .unassigned0C, plainRow .unassigned0D, plainRow .unassigned0E, plainRow .unassigned0F ]

/-- The opcode map, bytes 0x10..0x1F (R94, R96). -/
def opcodeRow1 : List (Word → Instr) :=
  [ plainRow .lt, plainRow .gt, plainRow .slt, plainRow .sgt,
    plainRow .eq, plainRow .iszero, plainRow .and, plainRow .or,
    plainRow .xor, plainRow .not, plainRow .byte, plainRow .shl,
    plainRow .shr, plainRow .sar, plainRow .unassigned1E, plainRow .unassigned1F ]

/-- The opcode map, bytes 0x20..0x2F (R94, R96). -/
def opcodeRow2 : List (Word → Instr) :=
  [ plainRow .keccak256, plainRow .unassigned21, plainRow .unassigned22, plainRow .unassigned23,
    plainRow .unassigned24, plainRow .unassigned25, plainRow .unassigned26, plainRow .unassigned27,
    plainRow .unassigned28, plainRow .unassigned29, plainRow .unassigned2A, plainRow .unassigned2B,
    plainRow .unassigned2C, plainRow .unassigned2D, plainRow .unassigned2E, plainRow .unassigned2F ]

/-- The opcode map, bytes 0x30..0x3F (R94, R96). -/
def opcodeRow3 : List (Word → Instr) :=
  [ plainRow .address, plainRow .unassigned31, plainRow .origin, plainRow .caller,
    plainRow .unassigned34, plainRow .unassigned35, plainRow .unassigned36, plainRow .unassigned37,
    plainRow .unassigned38, plainRow .unassigned39, plainRow .gasprice, plainRow .unassigned3B,
    plainRow .unassigned3C, plainRow .unassigned3D, plainRow .unassigned3E, plainRow .unassigned3F ]

/-- The opcode map, bytes 0x40..0x4F (R94, R96). -/
def opcodeRow4 : List (Word → Instr) :=
  [ plainRow .unassigned40, plainRow .coinbase, plainRow .timestamp, plainRow .number,
    plainRow .difficulty, plainRow .gaslimit, plainRow .chainid, plainRow .unassigned47,
    plainRow .basefee, plainRow .unassigned49, plainRow .unassigned4A, plainRow .unassigned4B,
    plainRow .unassigned4C, plainRow .unassigned4D, plainRow .unassigned4E, plainRow .unassigned4F ]

/-- The opcode map, bytes 0x50..0x5F (R94, R96). -/
def opcodeRow5 : List (Word → Instr) :=
  [ plainRow .pop, plainRow .mload, plainRow .mstore, plainRow .mstore8,
    plainRow .unassigned54, plainRow .unassigned55, plainRow .jump, plainRow .jumpi,
    plainRow .pc, plainRow .msize, plainRow .gas, plainRow .jumpdest,
    plainRow .unassigned5C, plainRow .unassigned5D, plainRow .unassigned5E, plainRow .unassigned5F ]

/-- The opcode map, bytes 0x60..0x6F (R94, R96). -/
def opcodeRow6 : List (Word → Instr) :=
  [ .push1, .push2, .push3, .push4,
    .push5, .push6, .push7, .push8,
    .push9, .push10, .push11, .push12,
    .push13, .push14, .push15, .push16 ]

/-- The opcode map, bytes 0x70..0x7F (R94, R96). -/
def opcodeRow7 : List (Word → Instr) :=
  [ .push17, .push18, .push19, .push20,
    .push21, .push22, .push23, .push24,
    .push25, .push26, .push27, .push28,
    .push29, .push30, .push31, .push32 ]

/-- The opcode map, bytes 0x80..0x8F (R94, R96). -/
def opcodeRow8 : List (Word → Instr) :=
  [ plainRow .dup1, plainRow .dup2, plainRow .dup3, plainRow .dup4,
    plainRow .dup5, plainRow .dup6, plainRow .dup7, plainRow .dup8,
    plainRow .dup9, plainRow .dup10, plainRow .dup11, plainRow .dup12,
    plainRow .dup13, plainRow .dup14, plainRow .dup15, plainRow .dup16 ]

/-- The opcode map, bytes 0x90..0x9F (R94, R96). -/
def opcodeRow9 : List (Word → Instr) :=
  [ plainRow .swap1, plainRow .swap2, plainRow .swap3, plainRow .swap4,
    plainRow .swap5, plainRow .swap6, plainRow .swap7, plainRow .swap8,
    plainRow .swap9, plainRow .swap10, plainRow .swap11, plainRow .swap12,
    plainRow .swap13, plainRow .swap14, plainRow .swap15, plainRow .swap16 ]

/-- The opcode map, bytes 0xA0..0xAF (R94, R96). -/
def opcodeRowA : List (Word → Instr) :=
  [ plainRow .unassignedA0, plainRow .unassignedA1, plainRow .unassignedA2, plainRow .unassignedA3,
    plainRow .unassignedA4, plainRow .unassignedA5, plainRow .unassignedA6, plainRow .unassignedA7,
    plainRow .unassignedA8, plainRow .unassignedA9, plainRow .unassignedAA, plainRow .unassignedAB,
    plainRow .unassignedAC, plainRow .unassignedAD, plainRow .unassignedAE, plainRow .unassignedAF ]

/-- The opcode map, bytes 0xB0..0xBF (R94, R96). -/
def opcodeRowB : List (Word → Instr) :=
  [ plainRow .unassignedB0, plainRow .unassignedB1, plainRow .unassignedB2, plainRow .unassignedB3,
    plainRow .unassignedB4, plainRow .unassignedB5, plainRow .unassignedB6, plainRow .unassignedB7,
    plainRow .unassignedB8, plainRow .unassignedB9, plainRow .unassignedBA, plainRow .unassignedBB,
    plainRow .unassignedBC, plainRow .unassignedBD, plainRow .unassignedBE, plainRow .unassignedBF ]

/-- The opcode map, bytes 0xC0..0xCF (R94, R96). -/
def opcodeRowC : List (Word → Instr) :=
  [ plainRow .unassignedC0, plainRow .unassignedC1, plainRow .unassignedC2, plainRow .unassignedC3,
    plainRow .unassignedC4, plainRow .unassignedC5, plainRow .unassignedC6, plainRow .unassignedC7,
    plainRow .unassignedC8, plainRow .unassignedC9, plainRow .unassignedCA, plainRow .unassignedCB,
    plainRow .unassignedCC, plainRow .unassignedCD, plainRow .unassignedCE, plainRow .unassignedCF ]

/-- The opcode map, bytes 0xD0..0xDF (R94, R96). -/
def opcodeRowD : List (Word → Instr) :=
  [ plainRow .unassignedD0, plainRow .unassignedD1, plainRow .unassignedD2, plainRow .unassignedD3,
    plainRow .unassignedD4, plainRow .unassignedD5, plainRow .unassignedD6, plainRow .unassignedD7,
    plainRow .unassignedD8, plainRow .unassignedD9, plainRow .unassignedDA, plainRow .unassignedDB,
    plainRow .unassignedDC, plainRow .unassignedDD, plainRow .unassignedDE, plainRow .unassignedDF ]

/-- The opcode map, bytes 0xE0..0xEF (R94, R96). -/
def opcodeRowE : List (Word → Instr) :=
  [ plainRow .unassignedE0, plainRow .unassignedE1, plainRow .unassignedE2, plainRow .unassignedE3,
    plainRow .unassignedE4, plainRow .unassignedE5, plainRow .unassignedE6, plainRow .unassignedE7,
    plainRow .unassignedE8, plainRow .unassignedE9, plainRow .unassignedEA, plainRow .unassignedEB,
    plainRow .unassignedEC, plainRow .unassignedED, plainRow .unassignedEE, plainRow .unassignedEF ]

/-- The opcode map, bytes 0xF0..0xFF (R94, R96). -/
def opcodeRowF : List (Word → Instr) :=
  [ plainRow .unassignedF0, plainRow .unassignedF1, plainRow .unassignedF2, plainRow .unassignedF3,
    plainRow .unassignedF4, plainRow .unassignedF5, plainRow .unassignedF6, plainRow .unassignedF7,
    plainRow .unassignedF8, plainRow .unassignedF9, plainRow .unassignedFA, plainRow .unassignedFB,
    plainRow .unassignedFC, plainRow .unassignedFD, plainRow .invalid, plainRow .unassignedFF ]

/-- The whole opcode map in opcode order (R94, R96): entry `op` builds the instruction of byte `op` from the
immediate read after it. -/
def opcodeMap : List (Word → Instr) :=
  opcodeRow0 ++ opcodeRow1 ++ opcodeRow2 ++ opcodeRow3 ++ opcodeRow4 ++ opcodeRow5 ++ opcodeRow6 ++ opcodeRow7 ++
  opcodeRow8 ++ opcodeRow9 ++ opcodeRowA ++ opcodeRowB ++ opcodeRowC ++ opcodeRowD ++ opcodeRowE ++ opcodeRowF

theorem opcodeMap_length : opcodeMap.length = 256 := by decide +kernel

/-- The instruction of opcode byte `op` followed by `rest`: "each of the 256 values decodes to exactly one of the 113
instructions or to `UNASSIGNED`" (R97). -/
def decodeOp (op : Byte) (rest : List Byte) : Instr :=
  (opcodeMap[op.toNat]'(by rw [opcodeMap_length]; exact op.isLt)) (immediate (immLen op) rest)

/-- Why the decoder gives no instruction. -/
inductive DecodeRefusal where
  /-- there is no byte to decode: the offset is at or past the end of the program (40_program_and_loop.md R124) -/
  | noOpcodeByte
deriving DecidableEq, Repr

/-- The decoder on the bytes from an offset to the end of the program. It refuses only the empty sequence (R97). -/
def decode : List Byte → Except DecodeRefusal Instr
  | [] => .error .noOpcodeByte
  | op :: rest => .ok (decodeOp op rest)

/-- The bytes of an instruction, opcode first, immediate big-endian in exactly N bytes (R90, R94, R99). -/
def encode : Instr → List Byte
  | .stop => [0x00]
  | .add => [0x01]
  | .mul => [0x02]
  | .sub => [0x03]
  | .div => [0x04]
  | .sdiv => [0x05]
  | .mod => [0x06]
  | .smod => [0x07]
  | .addmod => [0x08]
  | .mulmod => [0x09]
  | .exp => [0x0A]
  | .signextend => [0x0B]
  | .unassigned0C => [0x0C]
  | .unassigned0D => [0x0D]
  | .unassigned0E => [0x0E]
  | .unassigned0F => [0x0F]
  | .lt => [0x10]
  | .gt => [0x11]
  | .slt => [0x12]
  | .sgt => [0x13]
  | .eq => [0x14]
  | .iszero => [0x15]
  | .and => [0x16]
  | .or => [0x17]
  | .xor => [0x18]
  | .not => [0x19]
  | .byte => [0x1A]
  | .shl => [0x1B]
  | .shr => [0x1C]
  | .sar => [0x1D]
  | .unassigned1E => [0x1E]
  | .unassigned1F => [0x1F]
  | .keccak256 => [0x20]
  | .unassigned21 => [0x21]
  | .unassigned22 => [0x22]
  | .unassigned23 => [0x23]
  | .unassigned24 => [0x24]
  | .unassigned25 => [0x25]
  | .unassigned26 => [0x26]
  | .unassigned27 => [0x27]
  | .unassigned28 => [0x28]
  | .unassigned29 => [0x29]
  | .unassigned2A => [0x2A]
  | .unassigned2B => [0x2B]
  | .unassigned2C => [0x2C]
  | .unassigned2D => [0x2D]
  | .unassigned2E => [0x2E]
  | .unassigned2F => [0x2F]
  | .address => [0x30]
  | .unassigned31 => [0x31]
  | .origin => [0x32]
  | .caller => [0x33]
  | .unassigned34 => [0x34]
  | .unassigned35 => [0x35]
  | .unassigned36 => [0x36]
  | .unassigned37 => [0x37]
  | .unassigned38 => [0x38]
  | .unassigned39 => [0x39]
  | .gasprice => [0x3A]
  | .unassigned3B => [0x3B]
  | .unassigned3C => [0x3C]
  | .unassigned3D => [0x3D]
  | .unassigned3E => [0x3E]
  | .unassigned3F => [0x3F]
  | .unassigned40 => [0x40]
  | .coinbase => [0x41]
  | .timestamp => [0x42]
  | .number => [0x43]
  | .difficulty => [0x44]
  | .gaslimit => [0x45]
  | .chainid => [0x46]
  | .unassigned47 => [0x47]
  | .basefee => [0x48]
  | .unassigned49 => [0x49]
  | .unassigned4A => [0x4A]
  | .unassigned4B => [0x4B]
  | .unassigned4C => [0x4C]
  | .unassigned4D => [0x4D]
  | .unassigned4E => [0x4E]
  | .unassigned4F => [0x4F]
  | .pop => [0x50]
  | .mload => [0x51]
  | .mstore => [0x52]
  | .mstore8 => [0x53]
  | .unassigned54 => [0x54]
  | .unassigned55 => [0x55]
  | .jump => [0x56]
  | .jumpi => [0x57]
  | .pc => [0x58]
  | .msize => [0x59]
  | .gas => [0x5A]
  | .jumpdest => [0x5B]
  | .unassigned5C => [0x5C]
  | .unassigned5D => [0x5D]
  | .unassigned5E => [0x5E]
  | .unassigned5F => [0x5F]
  | .push1 imm => 0x60 :: natToBytes 1 imm.toNat
  | .push2 imm => 0x61 :: natToBytes 2 imm.toNat
  | .push3 imm => 0x62 :: natToBytes 3 imm.toNat
  | .push4 imm => 0x63 :: natToBytes 4 imm.toNat
  | .push5 imm => 0x64 :: natToBytes 5 imm.toNat
  | .push6 imm => 0x65 :: natToBytes 6 imm.toNat
  | .push7 imm => 0x66 :: natToBytes 7 imm.toNat
  | .push8 imm => 0x67 :: natToBytes 8 imm.toNat
  | .push9 imm => 0x68 :: natToBytes 9 imm.toNat
  | .push10 imm => 0x69 :: natToBytes 10 imm.toNat
  | .push11 imm => 0x6A :: natToBytes 11 imm.toNat
  | .push12 imm => 0x6B :: natToBytes 12 imm.toNat
  | .push13 imm => 0x6C :: natToBytes 13 imm.toNat
  | .push14 imm => 0x6D :: natToBytes 14 imm.toNat
  | .push15 imm => 0x6E :: natToBytes 15 imm.toNat
  | .push16 imm => 0x6F :: natToBytes 16 imm.toNat
  | .push17 imm => 0x70 :: natToBytes 17 imm.toNat
  | .push18 imm => 0x71 :: natToBytes 18 imm.toNat
  | .push19 imm => 0x72 :: natToBytes 19 imm.toNat
  | .push20 imm => 0x73 :: natToBytes 20 imm.toNat
  | .push21 imm => 0x74 :: natToBytes 21 imm.toNat
  | .push22 imm => 0x75 :: natToBytes 22 imm.toNat
  | .push23 imm => 0x76 :: natToBytes 23 imm.toNat
  | .push24 imm => 0x77 :: natToBytes 24 imm.toNat
  | .push25 imm => 0x78 :: natToBytes 25 imm.toNat
  | .push26 imm => 0x79 :: natToBytes 26 imm.toNat
  | .push27 imm => 0x7A :: natToBytes 27 imm.toNat
  | .push28 imm => 0x7B :: natToBytes 28 imm.toNat
  | .push29 imm => 0x7C :: natToBytes 29 imm.toNat
  | .push30 imm => 0x7D :: natToBytes 30 imm.toNat
  | .push31 imm => 0x7E :: natToBytes 31 imm.toNat
  | .push32 imm => 0x7F :: natToBytes 32 imm.toNat
  | .dup1 => [0x80]
  | .dup2 => [0x81]
  | .dup3 => [0x82]
  | .dup4 => [0x83]
  | .dup5 => [0x84]
  | .dup6 => [0x85]
  | .dup7 => [0x86]
  | .dup8 => [0x87]
  | .dup9 => [0x88]
  | .dup10 => [0x89]
  | .dup11 => [0x8A]
  | .dup12 => [0x8B]
  | .dup13 => [0x8C]
  | .dup14 => [0x8D]
  | .dup15 => [0x8E]
  | .dup16 => [0x8F]
  | .swap1 => [0x90]
  | .swap2 => [0x91]
  | .swap3 => [0x92]
  | .swap4 => [0x93]
  | .swap5 => [0x94]
  | .swap6 => [0x95]
  | .swap7 => [0x96]
  | .swap8 => [0x97]
  | .swap9 => [0x98]
  | .swap10 => [0x99]
  | .swap11 => [0x9A]
  | .swap12 => [0x9B]
  | .swap13 => [0x9C]
  | .swap14 => [0x9D]
  | .swap15 => [0x9E]
  | .swap16 => [0x9F]
  | .unassignedA0 => [0xA0]
  | .unassignedA1 => [0xA1]
  | .unassignedA2 => [0xA2]
  | .unassignedA3 => [0xA3]
  | .unassignedA4 => [0xA4]
  | .unassignedA5 => [0xA5]
  | .unassignedA6 => [0xA6]
  | .unassignedA7 => [0xA7]
  | .unassignedA8 => [0xA8]
  | .unassignedA9 => [0xA9]
  | .unassignedAA => [0xAA]
  | .unassignedAB => [0xAB]
  | .unassignedAC => [0xAC]
  | .unassignedAD => [0xAD]
  | .unassignedAE => [0xAE]
  | .unassignedAF => [0xAF]
  | .unassignedB0 => [0xB0]
  | .unassignedB1 => [0xB1]
  | .unassignedB2 => [0xB2]
  | .unassignedB3 => [0xB3]
  | .unassignedB4 => [0xB4]
  | .unassignedB5 => [0xB5]
  | .unassignedB6 => [0xB6]
  | .unassignedB7 => [0xB7]
  | .unassignedB8 => [0xB8]
  | .unassignedB9 => [0xB9]
  | .unassignedBA => [0xBA]
  | .unassignedBB => [0xBB]
  | .unassignedBC => [0xBC]
  | .unassignedBD => [0xBD]
  | .unassignedBE => [0xBE]
  | .unassignedBF => [0xBF]
  | .unassignedC0 => [0xC0]
  | .unassignedC1 => [0xC1]
  | .unassignedC2 => [0xC2]
  | .unassignedC3 => [0xC3]
  | .unassignedC4 => [0xC4]
  | .unassignedC5 => [0xC5]
  | .unassignedC6 => [0xC6]
  | .unassignedC7 => [0xC7]
  | .unassignedC8 => [0xC8]
  | .unassignedC9 => [0xC9]
  | .unassignedCA => [0xCA]
  | .unassignedCB => [0xCB]
  | .unassignedCC => [0xCC]
  | .unassignedCD => [0xCD]
  | .unassignedCE => [0xCE]
  | .unassignedCF => [0xCF]
  | .unassignedD0 => [0xD0]
  | .unassignedD1 => [0xD1]
  | .unassignedD2 => [0xD2]
  | .unassignedD3 => [0xD3]
  | .unassignedD4 => [0xD4]
  | .unassignedD5 => [0xD5]
  | .unassignedD6 => [0xD6]
  | .unassignedD7 => [0xD7]
  | .unassignedD8 => [0xD8]
  | .unassignedD9 => [0xD9]
  | .unassignedDA => [0xDA]
  | .unassignedDB => [0xDB]
  | .unassignedDC => [0xDC]
  | .unassignedDD => [0xDD]
  | .unassignedDE => [0xDE]
  | .unassignedDF => [0xDF]
  | .unassignedE0 => [0xE0]
  | .unassignedE1 => [0xE1]
  | .unassignedE2 => [0xE2]
  | .unassignedE3 => [0xE3]
  | .unassignedE4 => [0xE4]
  | .unassignedE5 => [0xE5]
  | .unassignedE6 => [0xE6]
  | .unassignedE7 => [0xE7]
  | .unassignedE8 => [0xE8]
  | .unassignedE9 => [0xE9]
  | .unassignedEA => [0xEA]
  | .unassignedEB => [0xEB]
  | .unassignedEC => [0xEC]
  | .unassignedED => [0xED]
  | .unassignedEE => [0xEE]
  | .unassignedEF => [0xEF]
  | .unassignedF0 => [0xF0]
  | .unassignedF1 => [0xF1]
  | .unassignedF2 => [0xF2]
  | .unassignedF3 => [0xF3]
  | .unassignedF4 => [0xF4]
  | .unassignedF5 => [0xF5]
  | .unassignedF6 => [0xF6]
  | .unassignedF7 => [0xF7]
  | .unassignedF8 => [0xF8]
  | .unassignedF9 => [0xF9]
  | .unassignedFA => [0xFA]
  | .unassignedFB => [0xFB]
  | .unassignedFC => [0xFC]
  | .unassignedFD => [0xFD]
  | .invalid => [0xFE]
  | .unassignedFF => [0xFF]

/-- The length of an instruction in bytes (R90, R91). -/
def Instr.length (i : Instr) : Nat := (encode i).length

/-- The bytes of a list of instructions in program order; refused when an immediate does not fit (R99). -/
def assemble : List Instr → Option (List Byte)
  | [] => some []
  | i :: is => if WellFormed i then (assemble is).map (encode i ++ ·) else none

/-- The first `n` bytes of the number `w`, its least significant byte first: how an instruction whose bits are numbered
as spec/opcode_table.json numbers them lies in code space, first byte at the lowest offset. -/
def tableBytes : Nat → Nat → List Byte
  | 0, _ => []
  | n + 1, w => BitVec.ofNat 8 w :: tableBytes n (w / 256)

/-- The bytes of a table word, followed by zeros up to the longest instruction (33 bytes, R90). -/
def tableWordBytes (nbits w : Nat) : List Byte :=
  tableBytes (1 + Config.pushMax) (w % 2 ^ nbits)

/-- The instruction the decoder reads from a word of spec/opcode_table.json. -/
def decodeTableWord (nbits w : Nat) : Option Instr :=
  match decode (tableWordBytes nbits w) with
  | .ok i => some i
  | .error _ => none

end Sys2Proof
end

