-- ==== Sys2Proof/Machine/Program.lean ====
section
/-! DEFINITION. The construction-time scan of the program: the offsets it visits as opcodes and the valid-destination
set VALID (40_program_and_loop.md R120, 10_state.md R31). -/

namespace Sys2Proof.Machine

/-- The JUMPDEST marker byte, the one opcode value the source gives (00_scope.md R8, 45_control_flow.md R280). -/
def jumpdestByte : Byte := 0x5B

/-- The scan of R120 over the bytes from the cursor `off` on, passing over `skip` immediate bytes first: the offsets at
which the cursor stands on an opcode, in rising order. -/
def opcodeOffsetsFrom : List Byte → Nat → Nat → List Nat
  | [], _, _ => []
  | _ :: bs, off, skip + 1 => opcodeOffsetsFrom bs (off + 1) skip
  | b :: bs, off, 0 => off :: opcodeOffsetsFrom bs (off + 1) (immLen b)

/-- Every offset the scan visits as an opcode (R98, R120). -/
def opcodeOffsets (code : List Byte) : List Nat := opcodeOffsetsFrom code 0 0

/-- The scan of R120, keeping the offsets whose byte is the JUMPDEST marker. A PUSH opcode is not the marker, so the
test is made on the bytes that are not inside PUSH immediate data only. -/
def validFrom : List Byte → Nat → Nat → List Nat
  | [], _, _ => []
  | _ :: bs, off, skip + 1 => validFrom bs (off + 1) skip
  | b :: bs, off, 0 =>
    if b = jumpdestByte then off :: validFrom bs (off + 1) (immLen b) else validFrom bs (off + 1) (immLen b)

/-- The set VALID of a program, as the rising list of its offsets (R31, R120). -/
def validDestinations (code : List Byte) : List Nat := validFrom code 0 0

end Sys2Proof.Machine
end

