-- ==== Sys2Proof/Machine/State.lean ====
section
/-! DEFINITION. The state of the machine (10_state.md): the run state of R21, and the parameters R21 calls fixed for the
duration of a run, which no instruction writes. Plain data throughout. -/

namespace Sys2Proof.Machine

/-- `STATUS` (R26). `halted` and `failed` are terminal. -/
inductive Status where
  | running
  | halted
  | failed
deriving DecidableEq, Repr

/-- The six failure kinds (60_exceptions.md R320). The FAULT register holds one of them, or `none` for None (R27). -/
inductive FailureKind where
  | stackUnderflow
  | stackOverflow
  | invalidJumpDestination
  | missingExecutionContext
  | explicitFault
  | memoryLimitExceeded
deriving DecidableEq, Repr

/-- One context register: its presence bit and its 256-bit value (R32). -/
structure CtxReg where
  present : Bool
  value   : Word
deriving DecidableEq, Repr

/-- The Transaction bank: its presence bit `ctx.tx.present` and registers 0 to 3 (R32). `recipient` is `ctx.tx.to` and `sender` is `ctx.tx.from`. -/
structure TxBank where
  present  : Bool
  recipient : CtxReg
  sender   : CtxReg
  origin   : CtxReg
  gasPrice : CtxReg
deriving DecidableEq, Repr

/-- The Block bank: its presence bit `ctx.blk.present` and registers 4 to 10 (R32). -/
structure BlkBank where
  present    : Bool
  baseFee    : CtxReg
  coinBase   : CtxReg
  timestamp  : CtxReg
  number     : CtxReg
  difficulty : CtxReg
  gasLimit   : CtxReg
  chainId    : CtxReg
deriving DecidableEq, Repr

/-- Data memory (R29): `len` is MLEN, and `cells` lists the nonzero bytes of `M` at rising addresses below `len`. A
byte below `len` that is not listed is 0x00, since "every byte added by an expansion is zero"; a byte at `len` or above
does not exist (log 7). -/
structure Memory where
  cells : List Host.Cell
  len   : Nat
deriving DecidableEq, Repr

/-- The state. `stack` is top first and its length is `depth`: positions at `depth` and above hold no value (R22).
`valid` is VALID, the rising list of its offsets (R31). -/
structure State where
  stack  : List Word
  pc     : Nat
  status : Status
  fault  : Option FailureKind
  mem    : Memory
  code   : List Byte
  valid  : List Nat
  tx     : TxBank
  blk    : BlkBank
  cfg    : Config
deriving DecidableEq, Repr

/-- Why the model's `step` gives no next state. The hardware's own failures are not among them: `raise` takes them to a
next state (60_exceptions.md R329). -/
inductive Fault where
  /-- Raised by `step` alone, when STATUS is not Running: "no further step is enabled" (R329, R122). Safe: the hardware
  makes no step there either (log 4). -/
  | runOver
deriving DecidableEq, Repr

/-- Why `exec` gives an instruction no meaning. -/
inductive Refusal where
  /-- Raised by an arm of `exec` whose instruction has no meaning yet; no arm does. Safe: the model stops. -/
  | notModelled (mnemonic : String)
deriving DecidableEq, Repr

/-- A context register the host did not supply: `present = 0` (R44); the value bits, which are then "without meaning"
(R33), are 0 (DESIGN CHOICE, log 2). -/
def CtxReg.absent : CtxReg := ⟨false, 0⟩

/-- A Transaction bank the host did not supply (R44). -/
def TxBank.absent : TxBank := ⟨false, .absent, .absent, .absent, .absent⟩

/-- A Block bank the host did not supply (R44). -/
def BlkBank.absent : BlkBank := ⟨false, .absent, .absent, .absent, .absent, .absent, .absent, .absent⟩

/-- The values the OPEN parameters have in `State.reset`: MEM_LIMIT = 2^32, CODE_MAX = 2^32 (DESIGN CHOICE, log 3). -/
def resetConfig : Config := { memUnits := 2 ^ 27, codeMax := 2 ^ 32 }

/-- The machine right after reset (R44, 70_reset_and_hazards.md R350), with nothing loaded by the host: the empty
program and no context (log 1). -/
def State.reset : State where
  stack  := []
  pc     := 0
  status := .running
  fault  := none
  mem    := { cells := [], len := 0 }
  code   := []
  valid  := validDestinations []
  tx     := .absent
  blk    := .absent
  cfg    := resetConfig

end Sys2Proof.Machine
end

