-- ==== Sys2Proof/Machine/Ops.lean ====
section
/-! DEFINITION. The shared operations over the state: ending a run (45_control_flow.md R284, 60_exceptions.md R329), the
stack primitives (10_state.md R40 to R43), data memory (20_memory.md R62 to R66), jumps and fetch
(40_program_and_loop.md R121, R122, R124).

An operation that can fail takes what the instruction does next as its last argument; when it fails, the step ends with
`raise` and what would come next does not happen (40_program_and_loop.md R123). -/

namespace Sys2Proof.Machine

/-- What a step answers. -/
abbrev StepOut := Host.Outcome State Fault Refusal

/-! ## Ending a run -/

/-- `raise K`, the trap entry (60_exceptions.md R329): STATUS <- Failed, FAULT <- K, "nothing else". There is no return
from it (R330): the way out of Failed is a new run, `start` of Machine/HostPort.lean. -/
def raise (k : FailureKind) (s : State) : State := { s with status := .failed, fault := some k }

/-- The step that fails with kind `k`. -/
def failStep (k : FailureKind) (s : State) : StepOut := .next (raise k s)

/-- `halt()` (45_control_flow.md R284): STATUS <- Halted; stack, memory, pc and FAULT unchanged. -/
def halt (s : State) : State := { s with status := .halted }

/-! ## Ending a step that goes on -/

/-- `pc <- pc + n` at the end of a step that does not end the run (10_state.md R25). -/
def advance (n : Nat) (s : State) : StepOut := .next { s with pc := s.pc + n }

/-! ## The operand stack -/

/-- `depth` (10_state.md R22). -/
def State.depth (s : State) : Nat := s.stack.length

/-- `S[k]`, 1-indexed from the top: "`S[k]` with `k > depth` or `k < 1` does not exist" (10_state.md R23). -/
def State.entry (s : State) (k : Nat) : Option Word :=
  match k with
  | 0 => none
  | k + 1 => s.stack[k]?

/-- `push(w)` (10_state.md R42): StackOverflow at the bound 1024, and then nothing is changed. The test is `depth < 1024`,
so that a stack above the bound, which no run reaches, overflows too (log 5). -/
def push (w : Word) (s : State) (andThen : State → StepOut) : StepOut :=
  if s.depth < Config.stackMax then andThen { s with stack := w :: s.stack } else failStep .stackOverflow s

/-- `need(1)` and one `pop()` (10_state.md R40, R41): the Word popped and the state after it. -/
def pop1 (s : State) (andThen : Word → State → StepOut) : StepOut :=
  match s.stack with
  | a :: rest => andThen a { s with stack := rest }
  | [] => failStep .stackUnderflow s

/-- `need(2)` and two pops; the first argument is the first Word popped (00_scope.md R15). -/
def pop2 (s : State) (andThen : Word → Word → State → StepOut) : StepOut :=
  match s.stack with
  | a :: b :: rest => andThen a b { s with stack := rest }
  | _ => failStep .stackUnderflow s

/-- `need(3)` and three pops. -/
def pop3 (s : State) (andThen : Word → Word → Word → State → StepOut) : StepOut :=
  match s.stack with
  | a :: b :: c :: rest => andThen a b c { s with stack := rest }
  | _ => failStep .stackUnderflow s

/-- `need(n)` and `peek(n)` (10_state.md R43, 41_stack_ops.md R175): `S[n]`, the stack unchanged. -/
def peek (n : Nat) (s : State) (andThen : Word → StepOut) : StepOut :=
  match s.entry n with
  | some w => andThen w
  | none => failStep .stackUnderflow s

/-- `need(n + 1)`, then `t = S[1]; S[1] <- S[n+1]; S[n+1] <- t` (41_stack_ops.md R192). -/
def exchange (n : Nat) (s : State) (andThen : State → StepOut) : StepOut :=
  match s.entry 1, s.entry (n + 1) with
  | some t, some w => andThen { s with stack := (s.stack.set 0 w).set n t }
  | _, _ => failStep .stackUnderflow s

/-! ## Data memory -/

/-- The byte listed at an address; an unlisted address reads 0x00 (log 7). -/
def cellsRead : List Host.Cell → Nat → Byte
  | [], _ => 0
  | (a, b) :: cs, i => if a = i then b else cellsRead cs i

/-- Set the byte at an address in a rising list of nonzero bytes, keeping that form: a zero byte is not listed. -/
def cellsWrite : List Host.Cell → Nat → Byte → List Host.Cell
  | [], i, v => if v = 0 then [] else [(i, v)]
  | (a, b) :: cs, i, v =>
    if i < a then (if v = 0 then (a, b) :: cs else (i, v) :: (a, b) :: cs)
    else if i = a then (if v = 0 then cs else (i, v) :: cs)
    else (a, b) :: cellsWrite cs i v

/-- The addresses rise strictly and lie in `lo .. len-1`, and no byte is 0x00. -/
def cellsOk (len : Nat) : Nat → List Host.Cell → Bool
  | _, [] => true
  | lo, (a, b) :: cs => decide (lo ≤ a) && decide (a < len) && decide (b ≠ 0) && cellsOk len (a + 1) cs

/-- The canonical form of memory, with "length is always a non-negative multiple of 32" (10_state.md R29). -/
def Memory.wf (m : Memory) : Bool := decide (m.len % Config.memUnit = 0) && cellsOk m.len 0 m.cells

/-- `M[i]`, which "exists for `0 <= i < MLEN`" (10_state.md R29). -/
def Memory.byte? (m : Memory) (i : Nat) : Option Byte := if i < m.len then some (cellsRead m.cells i) else none

/-- `MemEnsure(off, len)` (20_memory.md R62), sums exact; none is MemoryLimitExceeded (R68). -/
def Memory.ensure (memLimit off len : Nat) (m : Memory) : Option Memory :=
  if m.len < off + len then
    if memLimit < off + len then none
    else some { m with len := Config.memUnit * ((off + len + (Config.memUnit - 1)) / Config.memUnit) }
  else some m

/-- The `n` bytes `M[off] .. M[off+n-1]`, lowest address first (20_memory.md R63, R66). -/
def Memory.slice (m : Memory) : Nat → Nat → List Byte
  | _, 0 => []
  | off, n + 1 => cellsRead m.cells off :: m.slice (off + 1) n

/-- Store bytes at rising addresses from `off` on (20_memory.md R64). -/
def Memory.store (m : Memory) : Nat → List Byte → Memory
  | _, [] => m
  | off, b :: bs => Memory.store { m with cells := cellsWrite m.cells off b } (off + 1) bs

/-- `MemEnsure` on the state: MemoryLimitExceeded leaves memory unchanged (20_memory.md R67, R68). -/
def memEnsure (off len : Nat) (s : State) (andThen : State → StepOut) : StepOut :=
  match s.mem.ensure s.cfg.memLimit off len with
  | some m => andThen { s with mem := m }
  | none => failStep .memoryLimitExceeded s

/-- `MemRead(addr, n)` as bytes, that is `MemSlice(addr, n)` (20_memory.md R63, R66): the expansion comes first (R67). -/
def memRead (addr n : Nat) (s : State) (andThen : List Byte → State → StepOut) : StepOut :=
  memEnsure addr n s fun s => andThen (s.mem.slice addr n) s

/-- `MemWrite(addr, n, v)` of the bytes of `v`, most significant first (20_memory.md R64): the expansion comes first. -/
def memWrite (addr : Nat) (bytes : List Byte) (s : State) (andThen : State → StepOut) : StepOut :=
  memEnsure addr bytes.length s fun s => andThen { s with mem := s.mem.store addr bytes }

/-! ## Control transfer, fetch and natural end -/

/-- `VALID(t)` (40_program_and_loop.md R121): all 256 bits of the target count. -/
def State.validTarget (s : State) (t : Word) : Bool := decide (t.toNat < s.code.length) && s.valid.contains t.toNat

/-- The destination test of JUMP and of a taken JUMPI (45_control_flow.md R281): `next = u(target)`, or
InvalidJumpDestination with the operands popped. -/
def jumpTo (t : Word) (s : State) : StepOut :=
  if s.validTarget t then .next { s with pc := t.toNat } else failStep .invalidJumpDestination s

/-- The bytes from `pc` to the end of the program; none are left exactly when `pc >= CODE_LEN`. -/
def State.fetchBytes (s : State) : List Byte := s.code.drop s.pc

/-- One step from `STATUS = Running` (40_program_and_loop.md R122): natural end when `pc >= CODE_LEN` (R124), else the
rule of the decoded instruction. -/
def runningStep (run : Instr → State → StepOut) (s : State) : StepOut :=
  match decode s.fetchBytes with
  | .error .noOpcodeByte => .next (halt s)
  | .ok i => run i s

/-- Code space with these bytes at offset `at`, zeros before them where the program was shorter. -/
def placeBytes (code : List Byte) (off : Nat) (bytes : List Byte) : List Byte :=
  padTo off code ++ bytes ++ code.drop (off + bytes.length)

end Sys2Proof.Machine
end

