-- ==== Sys2Proof/Machine/Flags.lean ====
section
/-! DEFINITION. The hardware has no flags (10_state.md R28): "comparison instructions push a Word equal to `ONE` or
`ZERO`". What a flag register would hold elsewhere is here a Word on the stack, or a function of STATUS and FAULT. -/

namespace Sys2Proof.Machine

/-- The Word a comparison pushes: ONE or ZERO (43_compare_bitwise_shift.md R240). -/
def boolWord (b : Bool) : Word := if b then oneW else zeroW

/-- JUMPI's condition: "tested against zero on all 256 bits" (45_control_flow.md R282). -/
def conditionHolds (w : Word) : Bool := decide (w ≠ zeroW)

/-- `success`: true in Halted, false in Failed, without meaning in Running (10_state.md R26). -/
def Status.success : Status → Option Bool
  | .running => none
  | .halted => some true
  | .failed => some false

/-- The code of a failure kind (60_exceptions.md R320). -/
def FailureKind.code : FailureKind → Nat
  | .stackUnderflow => 1
  | .stackOverflow => 2
  | .invalidJumpDestination => 3
  | .missingExecutionContext => 4
  | .explicitFault => 5
  | .memoryLimitExceeded => 6

/-- The code the FAULT register reads as, 0 for None (R320, R27). -/
def State.faultCode (s : State) : Nat :=
  match s.fault with
  | none => 0
  | some k => k.code

end Sys2Proof.Machine
end

