-- ==== Sys2Proof/Machine/Engine.lean ====
section
/-! DEFINITION. The 256-bit arithmetic engine: the result function of each arithmetic, comparison, bitwise and shift
instruction (42_arithmetic.md R221 to R231, 43_compare_bitwise_shift.md R241 to R254). Each is total and reads its
operands only. `a` is the first Word popped, `b` the second, `n` the third (00_scope.md R15). -/

namespace Sys2Proof.Machine.Engine

/-- ADD (R221). -/
def add (a b : Word) : Word := natWord (a.toNat + b.toNat)

/-- MUL (R222): the low 256 bits of the product. -/
def mul (a b : Word) : Word := natWord (a.toNat * b.toNat)

/-- SUB (R223): `a` is the minuend. -/
def sub (a b : Word) : Word := intWord ((a.toNat : Int) - (b.toNat : Int))

/-- DIV (R224): unsigned; by zero yields 0. -/
def div (a b : Word) : Word := if b.toNat = 0 then zeroW else natWord (a.toNat / b.toNat)

/-- SDIV (R225): signed, truncating toward zero; by zero yields 0; `MINS / -1` yields MINS. -/
def sdiv (a b : Word) : Word :=
  if b.toInt = 0 then zeroW
  else if a = minS ∧ b.toInt = -1 then minS
  else intWord (a.toInt.tdiv b.toInt)

/-- MOD (R226). -/
def mod (a b : Word) : Word := if b.toNat = 0 then zeroW else natWord (a.toNat % b.toNat)

/-- SMOD (R227): the remainder of the truncating quotient, with the sign of the dividend. -/
def smod (a b : Word) : Word := if b.toInt = 0 then zeroW else intWord (a.toInt.tmod b.toInt)

/-- ADDMOD (R228): the sum is exact. -/
def addmod (a b n : Word) : Word := if n.toNat = 0 then zeroW else natWord ((a.toNat + b.toNat) % n.toNat)

/-- MULMOD (R229): the product is exact. -/
def mulmod (a b n : Word) : Word := if n.toNat = 0 then zeroW else natWord ((a.toNat * b.toNat) % n.toNat)

/-- `acc * base ^ e mod 2^256` for an exponent below `2 ^ fuel`, by squaring: "reducing after every multiplication gives
the same Word" (R230). -/
def powMod : Nat → Nat → Nat → Nat → Nat
  | 0, _, _, acc => acc
  | fuel + 1, base, e, acc =>
    powMod fuel (base * base % 2 ^ 256) (e / 2) (if e % 2 = 1 then acc * base % 2 ^ 256 else acc)

/-- EXP (R230): `word(u(a) ^ u(b))`, `0 ^ 0 = 1`, computed by squaring (log 14). -/
def exp (a b : Word) : Word := natWord (powMod 256 a.toNat b.toNat 1)

/-- SIGNEXTEND (R231): `k` is the byte index, `x` the value. -/
def signextend (k x : Word) : Word :=
  if 31 ≤ k.toNat then x
  else
    let t := 8 * (k.toNat + 1) - 1
    if x.getLsbD t then x ||| natWord (2 ^ 256 - 2 ^ (t + 1)) else x &&& natWord (2 ^ (t + 1) - 1)

/-- LT (R241). -/
def lt (a b : Word) : Word := boolWord (decide (a.toNat < b.toNat))

/-- GT (R242). -/
def gt (a b : Word) : Word := boolWord (decide (a.toNat > b.toNat))

/-- SLT (R243). -/
def slt (a b : Word) : Word := boolWord (decide (a.toInt < b.toInt))

/-- SGT (R244). -/
def sgt (a b : Word) : Word := boolWord (decide (a.toInt > b.toInt))

/-- EQ (R245). -/
def eq (a b : Word) : Word := boolWord (decide (a = b))

/-- ISZERO (R246). -/
def iszero (a : Word) : Word := boolWord (decide (a = zeroW))

/-- AND (R247). -/
def and (a b : Word) : Word := a &&& b

/-- OR (R248). -/
def or (a b : Word) : Word := a ||| b

/-- XOR (R249). -/
def xor (a b : Word) : Word := a ^^^ b

/-- NOT (R250). -/
def not (a : Word) : Word := ~~~a

/-- BYTE (R251): byte `i` of `x` from the most significant; 0 for an index of 32 or more. -/
def byte (i x : Word) : Word := if 32 ≤ i.toNat then zeroW else (byteAt x i.toNat).setWidth 256

/-- SHL (R252). -/
def shl (shift value : Word) : Word :=
  if 256 ≤ shift.toNat then zeroW else natWord (value.toNat * 2 ^ shift.toNat)

/-- SHR (R253). -/
def shr (shift value : Word) : Word :=
  if 256 ≤ shift.toNat then zeroW else natWord (value.toNat / 2 ^ shift.toNat)

/-- SAR (R254): the quotient is the floor, the divisor being positive. -/
def sar (shift value : Word) : Word :=
  if 256 ≤ shift.toNat then (if value.msb then maxW else zeroW)
  else intWord (value.toInt / ((2 ^ shift.toNat : Nat) : Int))

end Sys2Proof.Machine.Engine
end

