-- ==== Sys2Proof/Machine/Operands.lean ====
section
/-! DEFINITION. The operand templates of the instruction families: one, two or three Words popped and a result pushed
(42_arithmetic.md R220, 43_compare_bitwise_shift.md R240), and a context register pushed (46_context_gas.md R300). -/

namespace Sys2Proof.Machine

/-- The one-operand template (R240): `need(1); a = pop(); push(f(a)); next = pc + 1`. -/
def unary (f : Word → Word) (s : State) : StepOut :=
  pop1 s fun a s => push (f a) s (advance 1)

/-- The two-operand template (R220): `need(2); a = pop(); b = pop(); push(f(a, b)); next = pc + 1`. -/
def binary (f : Word → Word → Word) (s : State) : StepOut :=
  pop2 s fun a b s => push (f a b) s (advance 1)

/-- The three-operand template (R220). -/
def ternary (f : Word → Word → Word → Word) (s : State) : StepOut :=
  pop3 s fun a b n s => push (f a b n) s (advance 1)

/-- The value a context register of a present bank reads as: ZERO when the field is absent (10_state.md R33). -/
def CtxReg.read (r : CtxReg) : Word := if r.present then r.value else zeroW

/-- A context instruction (R300): the bank test comes first, then the push. -/
def pushContext (bankPresent : Bool) (r : CtxReg) (s : State) : StepOut :=
  if bankPresent then push r.read s (advance 1) else failStep .missingExecutionContext s

end Sys2Proof.Machine
end

