-- ==== Sys2Proof/Machine/Arithmetic.lean ====
section
/-! DEFINITION. The arithmetic instructions (42_arithmetic.md). The only failure is StackUnderflow (R233). -/

namespace Sys2Proof.Machine

/-- ADD (R221). -/
def execAdd (s : State) : StepOut := binary Engine.add s

/-- MUL (R222). -/
def execMul (s : State) : StepOut := binary Engine.mul s

/-- SUB (R223). -/
def execSub (s : State) : StepOut := binary Engine.sub s

/-- DIV (R224). -/
def execDiv (s : State) : StepOut := binary Engine.div s

/-- SDIV (R225). -/
def execSdiv (s : State) : StepOut := binary Engine.sdiv s

/-- MOD (R226). -/
def execMod (s : State) : StepOut := binary Engine.mod s

/-- SMOD (R227). -/
def execSmod (s : State) : StepOut := binary Engine.smod s

/-- ADDMOD (R228). -/
def execAddmod (s : State) : StepOut := ternary Engine.addmod s

/-- MULMOD (R229). -/
def execMulmod (s : State) : StepOut := ternary Engine.mulmod s

/-- EXP (R230). -/
def execExp (s : State) : StepOut := binary Engine.exp s

/-- SIGNEXTEND (R231). -/
def execSignextend (s : State) : StepOut := binary Engine.signextend s

end Sys2Proof.Machine
end

