-- ==== Sys2Proof/Machine/Compare.lean ====
section
/-! DEFINITION. The comparison, bitwise, byte and shift instructions (43_compare_bitwise_shift.md). The only failure is
StackUnderflow (R240). -/

namespace Sys2Proof.Machine

/-- LT (R241). -/
def execLt (s : State) : StepOut := binary Engine.lt s

/-- GT (R242). -/
def execGt (s : State) : StepOut := binary Engine.gt s

/-- SLT (R243). -/
def execSlt (s : State) : StepOut := binary Engine.slt s

/-- SGT (R244). -/
def execSgt (s : State) : StepOut := binary Engine.sgt s

/-- EQ (R245). -/
def execEq (s : State) : StepOut := binary Engine.eq s

/-- ISZERO (R246). -/
def execIszero (s : State) : StepOut := unary Engine.iszero s

/-- AND (R247). -/
def execAnd (s : State) : StepOut := binary Engine.and s

/-- OR (R248). -/
def execOr (s : State) : StepOut := binary Engine.or s

/-- XOR (R249). -/
def execXor (s : State) : StepOut := binary Engine.xor s

/-- NOT (R250). -/
def execNot (s : State) : StepOut := unary Engine.not s

/-- BYTE (R251). -/
def execByte (s : State) : StepOut := binary Engine.byte s

/-- SHL (R252). -/
def execShl (s : State) : StepOut := binary Engine.shl s

/-- SHR (R253). -/
def execShr (s : State) : StepOut := binary Engine.shr s

/-- SAR (R254). -/
def execSar (s : State) : StepOut := binary Engine.sar s

end Sys2Proof.Machine
end

