-- ==== Sys2Proof/Machine/Context.lean ====
section
/-! DEFINITION. The context instructions and GAS (46_context_gas.md). -/

namespace Sys2Proof.Machine

/-- ADDRESS reads `ctx.tx.to` (R301). -/
def execAddress (s : State) : StepOut := pushContext s.tx.present s.tx.recipient s

/-- ORIGIN reads `ctx.tx.origin` (R302). -/
def execOrigin (s : State) : StepOut := pushContext s.tx.present s.tx.origin s

/-- CALLER reads `ctx.tx.from` (R303). -/
def execCaller (s : State) : StepOut := pushContext s.tx.present s.tx.sender s

/-- GASPRICE reads `ctx.tx.gasPrice` (R304). -/
def execGasprice (s : State) : StepOut := pushContext s.tx.present s.tx.gasPrice s

/-- COINBASE reads `ctx.blk.coinBase` (R305). -/
def execCoinbase (s : State) : StepOut := pushContext s.blk.present s.blk.coinBase s

/-- TIMESTAMP reads `ctx.blk.timestamp` (R306). -/
def execTimestamp (s : State) : StepOut := pushContext s.blk.present s.blk.timestamp s

/-- NUMBER reads `ctx.blk.number` (R307). -/
def execNumber (s : State) : StepOut := pushContext s.blk.present s.blk.number s

/-- DIFFICULTY reads `ctx.blk.difficulty` (R308). -/
def execDifficulty (s : State) : StepOut := pushContext s.blk.present s.blk.difficulty s

/-- GASLIMIT reads `ctx.blk.gasLimit` (R309). -/
def execGaslimit (s : State) : StepOut := pushContext s.blk.present s.blk.gasLimit s

/-- CHAINID reads `ctx.blk.chainId` (R310). -/
def execChainid (s : State) : StepOut := pushContext s.blk.present s.blk.chainId s

/-- BASEFEE reads `ctx.blk.baseFee` (R311). -/
def execBasefee (s : State) : StepOut := pushContext s.blk.present s.blk.baseFee s

/-- The sentinel GAS pushes, "the maximum Word" (R312, 00_scope.md R8). -/
def gasSentinel : Word := maxW

/-- GAS (R312): a constant; no context register is read. -/
def execGas (s : State) : StepOut := push gasSentinel s (advance 1)

end Sys2Proof.Machine
end

