-- ==== Sys2Proof/Machine/Control.lean ====
section
/-! DEFINITION. The control-flow and run-ending instructions (45_control_flow.md). -/

namespace Sys2Proof.Machine

/-- JUMPDEST (R280): "nothing else" than `next = pc + 1`. -/
def execJumpdest (s : State) : StepOut := advance 1 s

/-- JUMP (R281). -/
def execJump (s : State) : StepOut := pop1 s fun target s => jumpTo target s

/-- JUMPI (R282): with a zero condition the target is not examined. -/
def execJumpi (s : State) : StepOut :=
  pop2 s fun target condition s => if conditionHolds condition then jumpTo target s else advance 1 s

/-- PC (R283): the offset of this opcode (log 10). -/
def execPc (s : State) : StepOut := push (natWord s.pc) s (advance 1)

/-- STOP (R284). -/
def execStop (s : State) : StepOut := .next (halt s)

/-- INVALID (R285): ExplicitFault, always. -/
def execInvalid (s : State) : StepOut := failStep .explicitFault s

end Sys2Proof.Machine
end

