-- ==== Sys2Proof/Machine/Keccak.lean ====
section
/-! DEFINITION. DIGEST: Keccak-256 as 44_memory_hash.md R266 to R269 define it (the spec's own decision D3). -/

namespace Sys2Proof.Machine.Keccak

/-- A lane: 64 bits (R266). -/
abbrev Lane := BitVec 64

/-- Lane `A[x][y]` of a permutation state, lane number `x + 5*y`, index arithmetic modulo 5 (R266, R267). -/
def lane (A : List Lane) (x y : Nat) : Lane := A.getD (x % 5 + 5 * (y % 5)) 0

/-- The state whose lane `A[x][y]` is `f x y`, in lane-number order (R266). -/
def build (f : Nat → Nat → Lane) : List Lane := (List.range 25).map fun i => f (i % 5) (i / 5)

/-- `rol(v, r)` (R266). -/
def rol (v : Lane) (r : Nat) : Lane := v.rotateLeft (r % 64)

/-- theta (R267). -/
def theta (A : List Lane) : List Lane :=
  let c := (List.range 5).map fun x => lane A x 0 ^^^ lane A x 1 ^^^ lane A x 2 ^^^ lane A x 3 ^^^ lane A x 4
  let d := (List.range 5).map fun x => c.getD ((x + 4) % 5) 0 ^^^ rol (c.getD ((x + 1) % 5) 0) 1
  build fun x y => lane A x y ^^^ d.getD x 0

/-- The rotation offset `ROT[x][y]`, the table of R267 row by row. -/
def rotation (x y : Nat) : Nat :=
  match x with
  | 0 => [0, 36, 3, 41, 18].getD y 0
  | 1 => [1, 44, 10, 45, 2].getD y 0
  | 2 => [62, 6, 43, 15, 61].getD y 0
  | 3 => [28, 55, 25, 21, 56].getD y 0
  | _ => [27, 20, 39, 8, 14].getD y 0

/-- rho and pi (R267): lane `B[X][Y]` comes from the `(x, y)` with `y = X` and `2x + 3y = Y` modulo 5, that is
`x = X + 3Y`. -/
def rhoPi (A : List Lane) : List Lane :=
  build fun X Y =>
    let x := (X + 3 * Y) % 5
    rol (lane A x X) (rotation x X)

/-- chi (R267). -/
def chi (B : List Lane) : List Lane :=
  build fun x y => lane B x y ^^^ (~~~(lane B (x + 1) y) &&& lane B (x + 2) y)

/-- iota (R267): only lane `A[0][0]` changes. -/
def iota (rc : Lane) : List Lane → List Lane
  | [] => []
  | a :: rest => (a ^^^ rc) :: rest

/-- One round, the five steps in order (R267). -/
def round (A : List Lane) (rc : Lane) : List Lane := iota rc (chi (rhoPi (theta A)))

/-- The table of R268 as it stands, one row for each `r` in 0..7: `RC[r]`, `RC[r + 8]`, `RC[r + 16]`. -/
def roundConstantRows : List (Lane × Lane × Lane) :=
  [ (0x0000000000000001, 0x000000000000008A, 0x8000000000008002),
    (0x0000000000008082, 0x0000000000000088, 0x8000000000000080),
    (0x800000000000808A, 0x0000000080008009, 0x000000000000800A),
    (0x8000000080008000, 0x000000008000000A, 0x800000008000000A),
    (0x000000000000808B, 0x000000008000808B, 0x8000000080008081),
    (0x0000000080000001, 0x800000000000008B, 0x8000000000008080),
    (0x8000000080008081, 0x8000000000008089, 0x0000000080000001),
    (0x8000000000008009, 0x8000000000008003, 0x8000000080008008) ]

/-- The round constants `RC[0..23]`: the three columns of the table, one after the other (R268). -/
def roundConstants : List Lane :=
  roundConstantRows.map (·.1) ++ roundConstantRows.map (·.2.1) ++ roundConstantRows.map (·.2.2)

/-- Keccak-f[1600]: 24 rounds (R267). -/
def permute (A : List Lane) : List Lane := roundConstants.foldl round A

/-- The rate in bytes (R269). -/
def rate : Nat := 136

/-- A lane from its bytes, the first byte least significant (R266). -/
def laneOfBytes (bs : List Byte) : Lane := bs.foldr (fun b acc => (acc <<< 8) ||| b.setWidth 64) 0

/-- The eight bytes of a lane, least significant first (R266). -/
def laneBytes (v : Lane) : List Byte := (List.range 8).map fun j => v.extractLsb' (8 * j) 8

/-- The first `n` lanes of a byte string, eight bytes each. -/
def lanesOfBytes : Nat → List Byte → List Lane
  | 0, _ => []
  | n + 1, bs => laneOfBytes (bs.take 8) :: lanesOfBytes n (bs.drop 8)

/-- The padding for a message of `len` bytes: 0x01, zeros, and bit 7 of the last byte set, up to a multiple of the rate;
the single byte 0x81 when one byte is missing (R269). -/
def padding (len : Nat) : List Byte :=
  let missing := rate - len % rate
  if missing = 1 then [0x81] else 0x01 :: (List.replicate (missing - 2) 0 ++ [0x80])

/-- Exclusive-or a block into the first 17 lanes and permute (R269). -/
def absorbBlock (A : List Lane) (block : List Byte) : List Lane :=
  permute (List.zipWith (· ^^^ ·) A (lanesOfBytes 17 block ++ List.replicate 8 0))

/-- Absorb the first `n` blocks of a padded message (R269). -/
def absorb : Nat → List Lane → List Byte → List Lane
  | 0, A, _ => A
  | n + 1, A, bs => absorb n (absorbBlock A (bs.take rate)) (bs.drop rate)

/-- The state before the first block: all lanes zero (R269). -/
def zeroState : List Lane := List.replicate 25 0

/-- DIGEST (R265, R269): the first 32 bytes of the state after the last block. -/
def digest (msg : List Byte) : List Byte :=
  let padded := msg ++ padding msg.length
  ((absorb (msg.length / rate + 1) zeroState padded).take 4).flatMap laneBytes

end Sys2Proof.Machine.Keccak
end

