-- ==== Sys2Proof/Machine/MemoryHash.lean ====
section
/-! DEFINITION. The memory and hashing instructions (44_memory_hash.md). The effective address is the unsigned reading
of the popped offset (R271). -/

namespace Sys2Proof.Machine

/-- MLOAD (R260). -/
def execMload (s : State) : StepOut :=
  pop1 s fun offset s => memRead offset.toNat 32 s fun bytes s => push (bytesWord bytes) s (advance 1)

/-- MSTORE (R261): the offset is popped first. -/
def execMstore (s : State) : StepOut :=
  pop2 s fun offset value s => memWrite offset.toNat (wordBytes value) s (advance 1)

/-- MSTORE8 (R262): the least significant byte of the value is stored. -/
def execMstore8 (s : State) : StepOut :=
  pop2 s fun offset value s => memWrite offset.toNat [value.setWidth 8] s (advance 1)

/-- MSIZE (R263, 20_memory.md R65): MLEN in bytes; nothing is changed but the stack (log 10). -/
def execMsize (s : State) : StepOut := push (natWord s.mem.len) s (advance 1)

/-- KECCAK256 (R264): the first Word popped is the offset, the second the length. -/
def execKeccak256 (s : State) : StepOut :=
  pop2 s fun offset length s => memRead offset.toNat length.toNat s fun bytes s =>
    push (bytesWord (Keccak.digest bytes)) s (advance 1)

end Sys2Proof.Machine
end

