-- ==== Sys2Proof/Machine/StackOps.lean ====
section
/-! DEFINITION. The stack instructions POP, PUSH1..PUSH32, DUP1..DUP16, SWAP1..SWAP16 (41_stack_ops.md). -/

namespace Sys2Proof.Machine

/-- POP (R141). -/
def execPop (s : State) : StepOut := pop1 s fun _ s => advance 1 s

/-- PUSHN (R142): push the immediate, then `next = pc + 1 + N`, also when the program ends early. -/
def pushImm (n : Nat) (imm : Word) (s : State) : StepOut := push imm s (advance (1 + n))

/-- DUPn (R175): `need(n)`, then push a copy of `S[n]`. -/
def dupTop (n : Nat) (s : State) : StepOut := peek n s fun w => push w s (advance 1)

/-- SWAPn (R192): `need(n + 1)`, then exchange `S[1]` and `S[n+1]`. -/
def swapTop (n : Nat) (s : State) : StepOut := exchange n s (advance 1)

/-- PUSH1 (R143). -/
def execPush1 (imm : Word) (s : State) : StepOut := pushImm 1 imm s
/-- PUSH2 (R144). -/
def execPush2 (imm : Word) (s : State) : StepOut := pushImm 2 imm s
/-- PUSH3 (R145). -/
def execPush3 (imm : Word) (s : State) : StepOut := pushImm 3 imm s
/-- PUSH4 (R146). -/
def execPush4 (imm : Word) (s : State) : StepOut := pushImm 4 imm s
/-- PUSH5 (R147). -/
def execPush5 (imm : Word) (s : State) : StepOut := pushImm 5 imm s
/-- PUSH6 (R148). -/
def execPush6 (imm : Word) (s : State) : StepOut := pushImm 6 imm s
/-- PUSH7 (R149). -/
def execPush7 (imm : Word) (s : State) : StepOut := pushImm 7 imm s
/-- PUSH8 (R150). -/
def execPush8 (imm : Word) (s : State) : StepOut := pushImm 8 imm s
/-- PUSH9 (R151). -/
def execPush9 (imm : Word) (s : State) : StepOut := pushImm 9 imm s
/-- PUSH10 (R152). -/
def execPush10 (imm : Word) (s : State) : StepOut := pushImm 10 imm s
/-- PUSH11 (R153). -/
def execPush11 (imm : Word) (s : State) : StepOut := pushImm 11 imm s
/-- PUSH12 (R154). -/
def execPush12 (imm : Word) (s : State) : StepOut := pushImm 12 imm s
/-- PUSH13 (R155). -/
def execPush13 (imm : Word) (s : State) : StepOut := pushImm 13 imm s
/-- PUSH14 (R156). -/
def execPush14 (imm : Word) (s : State) : StepOut := pushImm 14 imm s
/-- PUSH15 (R157). -/
def execPush15 (imm : Word) (s : State) : StepOut := pushImm 15 imm s
/-- PUSH16 (R158). -/
def execPush16 (imm : Word) (s : State) : StepOut := pushImm 16 imm s
/-- PUSH17 (R159). -/
def execPush17 (imm : Word) (s : State) : StepOut := pushImm 17 imm s
/-- PUSH18 (R160). -/
def execPush18 (imm : Word) (s : State) : StepOut := pushImm 18 imm s
/-- PUSH19 (R161). -/
def execPush19 (imm : Word) (s : State) : StepOut := pushImm 19 imm s
/-- PUSH20 (R162). -/
def execPush20 (imm : Word) (s : State) : StepOut := pushImm 20 imm s
/-- PUSH21 (R163). -/
def execPush21 (imm : Word) (s : State) : StepOut := pushImm 21 imm s
/-- PUSH22 (R164). -/
def execPush22 (imm : Word) (s : State) : StepOut := pushImm 22 imm s
/-- PUSH23 (R165). -/
def execPush23 (imm : Word) (s : State) : StepOut := pushImm 23 imm s
/-- PUSH24 (R166). -/
def execPush24 (imm : Word) (s : State) : StepOut := pushImm 24 imm s
/-- PUSH25 (R167). -/
def execPush25 (imm : Word) (s : State) : StepOut := pushImm 25 imm s
/-- PUSH26 (R168). -/
def execPush26 (imm : Word) (s : State) : StepOut := pushImm 26 imm s
/-- PUSH27 (R169). -/
def execPush27 (imm : Word) (s : State) : StepOut := pushImm 27 imm s
/-- PUSH28 (R170). -/
def execPush28 (imm : Word) (s : State) : StepOut := pushImm 28 imm s
/-- PUSH29 (R171). -/
def execPush29 (imm : Word) (s : State) : StepOut := pushImm 29 imm s
/-- PUSH30 (R172). -/
def execPush30 (imm : Word) (s : State) : StepOut := pushImm 30 imm s
/-- PUSH31 (R173). -/
def execPush31 (imm : Word) (s : State) : StepOut := pushImm 31 imm s
/-- PUSH32 (R174). -/
def execPush32 (imm : Word) (s : State) : StepOut := pushImm 32 imm s
/-- DUP1 (R176). -/
def execDup1 (s : State) : StepOut := dupTop 1 s
/-- DUP2 (R177). -/
def execDup2 (s : State) : StepOut := dupTop 2 s
/-- DUP3 (R178). -/
def execDup3 (s : State) : StepOut := dupTop 3 s
/-- DUP4 (R179). -/
def execDup4 (s : State) : StepOut := dupTop 4 s
/-- DUP5 (R180). -/
def execDup5 (s : State) : StepOut := dupTop 5 s
/-- DUP6 (R181). -/
def execDup6 (s : State) : StepOut := dupTop 6 s
/-- DUP7 (R182). -/
def execDup7 (s : State) : StepOut := dupTop 7 s
/-- DUP8 (R183). -/
def execDup8 (s : State) : StepOut := dupTop 8 s
/-- DUP9 (R184). -/
def execDup9 (s : State) : StepOut := dupTop 9 s
/-- DUP10 (R185). -/
def execDup10 (s : State) : StepOut := dupTop 10 s
/-- DUP11 (R186). -/
def execDup11 (s : State) : StepOut := dupTop 11 s
/-- DUP12 (R187). -/
def execDup12 (s : State) : StepOut := dupTop 12 s
/-- DUP13 (R188). -/
def execDup13 (s : State) : StepOut := dupTop 13 s
/-- DUP14 (R189). -/
def execDup14 (s : State) : StepOut := dupTop 14 s
/-- DUP15 (R190). -/
def execDup15 (s : State) : StepOut := dupTop 15 s
/-- DUP16 (R191). -/
def execDup16 (s : State) : StepOut := dupTop 16 s
/-- SWAP1 (R193). -/
def execSwap1 (s : State) : StepOut := swapTop 1 s
/-- SWAP2 (R194). -/
def execSwap2 (s : State) : StepOut := swapTop 2 s
/-- SWAP3 (R195). -/
def execSwap3 (s : State) : StepOut := swapTop 3 s
/-- SWAP4 (R196). -/
def execSwap4 (s : State) : StepOut := swapTop 4 s
/-- SWAP5 (R197). -/
def execSwap5 (s : State) : StepOut := swapTop 5 s
/-- SWAP6 (R198). -/
def execSwap6 (s : State) : StepOut := swapTop 6 s
/-- SWAP7 (R199). -/
def execSwap7 (s : State) : StepOut := swapTop 7 s
/-- SWAP8 (R200). -/
def execSwap8 (s : State) : StepOut := swapTop 8 s
/-- SWAP9 (R201). -/
def execSwap9 (s : State) : StepOut := swapTop 9 s
/-- SWAP10 (R202). -/
def execSwap10 (s : State) : StepOut := swapTop 10 s
/-- SWAP11 (R203). -/
def execSwap11 (s : State) : StepOut := swapTop 11 s
/-- SWAP12 (R204). -/
def execSwap12 (s : State) : StepOut := swapTop 12 s
/-- SWAP13 (R205). -/
def execSwap13 (s : State) : StepOut := swapTop 13 s
/-- SWAP14 (R206). -/
def execSwap14 (s : State) : StepOut := swapTop 14 s
/-- SWAP15 (R207). -/
def execSwap15 (s : State) : StepOut := swapTop 15 s
/-- SWAP16 (R208). -/
def execSwap16 (s : State) : StepOut := swapTop 16 s

end Sys2Proof.Machine
end

