-- ==== Sys2Proof/Machine/Unassigned.lean ====
section
/-! DEFINITION. The 143 unassigned opcode bytes (30_encoding.md R96): each one halts the run with success true, "exactly
as STOP" (45_control_flow.md R286). -/

namespace Sys2Proof.Machine

/-- UNASSIGNED (R286): `halt()`; nothing is popped, pushed, read or written. -/
def unassignedHalt (s : State) : StepOut := .next (halt s)

def execUnassigned0C (s : State) : StepOut := unassignedHalt s
def execUnassigned0D (s : State) : StepOut := unassignedHalt s
def execUnassigned0E (s : State) : StepOut := unassignedHalt s
def execUnassigned0F (s : State) : StepOut := unassignedHalt s
def execUnassigned1E (s : State) : StepOut := unassignedHalt s
def execUnassigned1F (s : State) : StepOut := unassignedHalt s
def execUnassigned21 (s : State) : StepOut := unassignedHalt s
def execUnassigned22 (s : State) : StepOut := unassignedHalt s
def execUnassigned23 (s : State) : StepOut := unassignedHalt s
def execUnassigned24 (s : State) : StepOut := unassignedHalt s
def execUnassigned25 (s : State) : StepOut := unassignedHalt s
def execUnassigned26 (s : State) : StepOut := unassignedHalt s
def execUnassigned27 (s : State) : StepOut := unassignedHalt s
def execUnassigned28 (s : State) : StepOut := unassignedHalt s
def execUnassigned29 (s : State) : StepOut := unassignedHalt s
def execUnassigned2A (s : State) : StepOut := unassignedHalt s
def execUnassigned2B (s : State) : StepOut := unassignedHalt s
def execUnassigned2C (s : State) : StepOut := unassignedHalt s
def execUnassigned2D (s : State) : StepOut := unassignedHalt s
def execUnassigned2E (s : State) : StepOut := unassignedHalt s
def execUnassigned2F (s : State) : StepOut := unassignedHalt s
def execUnassigned31 (s : State) : StepOut := unassignedHalt s
def execUnassigned34 (s : State) : StepOut := unassignedHalt s
def execUnassigned35 (s : State) : StepOut := unassignedHalt s
def execUnassigned36 (s : State) : StepOut := unassignedHalt s
def execUnassigned37 (s : State) : StepOut := unassignedHalt s
def execUnassigned38 (s : State) : StepOut := unassignedHalt s
def execUnassigned39 (s : State) : StepOut := unassignedHalt s
def execUnassigned3B (s : State) : StepOut := unassignedHalt s
def execUnassigned3C (s : State) : StepOut := unassignedHalt s
def execUnassigned3D (s : State) : StepOut := unassignedHalt s
def execUnassigned3E (s : State) : StepOut := unassignedHalt s
def execUnassigned3F (s : State) : StepOut := unassignedHalt s
def execUnassigned40 (s : State) : StepOut := unassignedHalt s
def execUnassigned47 (s : State) : StepOut := unassignedHalt s
def execUnassigned49 (s : State) : StepOut := unassignedHalt s
def execUnassigned4A (s : State) : StepOut := unassignedHalt s
def execUnassigned4B (s : State) : StepOut := unassignedHalt s
def execUnassigned4C (s : State) : StepOut := unassignedHalt s
def execUnassigned4D (s : State) : StepOut := unassignedHalt s
def execUnassigned4E (s : State) : StepOut := unassignedHalt s
def execUnassigned4F (s : State) : StepOut := unassignedHalt s
def execUnassigned54 (s : State) : StepOut := unassignedHalt s
def execUnassigned55 (s : State) : StepOut := unassignedHalt s
def execUnassigned5C (s : State) : StepOut := unassignedHalt s
def execUnassigned5D (s : State) : StepOut := unassignedHalt s
def execUnassigned5E (s : State) : StepOut := unassignedHalt s
def execUnassigned5F (s : State) : StepOut := unassignedHalt s
def execUnassignedA0 (s : State) : StepOut := unassignedHalt s
def execUnassignedA1 (s : State) : StepOut := unassignedHalt s
def execUnassignedA2 (s : State) : StepOut := unassignedHalt s
def execUnassignedA3 (s : State) : StepOut := unassignedHalt s
def execUnassignedA4 (s : State) : StepOut := unassignedHalt s
def execUnassignedA5 (s : State) : StepOut := unassignedHalt s
def execUnassignedA6 (s : State) : StepOut := unassignedHalt s
def execUnassignedA7 (s : State) : StepOut := unassignedHalt s
def execUnassignedA8 (s : State) : StepOut := unassignedHalt s
def execUnassignedA9 (s : State) : StepOut := unassignedHalt s
def execUnassignedAA (s : State) : StepOut := unassignedHalt s
def execUnassignedAB (s : State) : StepOut := unassignedHalt s
def execUnassignedAC (s : State) : StepOut := unassignedHalt s
def execUnassignedAD (s : State) : StepOut := unassignedHalt s
def execUnassignedAE (s : State) : StepOut := unassignedHalt s
def execUnassignedAF (s : State) : StepOut := unassignedHalt s
def execUnassignedB0 (s : State) : StepOut := unassignedHalt s
def execUnassignedB1 (s : State) : StepOut := unassignedHalt s
def execUnassignedB2 (s : State) : StepOut := unassignedHalt s
def execUnassignedB3 (s : State) : StepOut := unassignedHalt s
def execUnassignedB4 (s : State) : StepOut := unassignedHalt s
def execUnassignedB5 (s : State) : StepOut := unassignedHalt s
def execUnassignedB6 (s : State) : StepOut := unassignedHalt s
def execUnassignedB7 (s : State) : StepOut := unassignedHalt s
def execUnassignedB8 (s : State) : StepOut := unassignedHalt s
def execUnassignedB9 (s : State) : StepOut := unassignedHalt s
def execUnassignedBA (s : State) : StepOut := unassignedHalt s
def execUnassignedBB (s : State) : StepOut := unassignedHalt s
def execUnassignedBC (s : State) : StepOut := unassignedHalt s
def execUnassignedBD (s : State) : StepOut := unassignedHalt s
def execUnassignedBE (s : State) : StepOut := unassignedHalt s
def execUnassignedBF (s : State) : StepOut := unassignedHalt s
def execUnassignedC0 (s : State) : StepOut := unassignedHalt s
def execUnassignedC1 (s : State) : StepOut := unassignedHalt s
def execUnassignedC2 (s : State) : StepOut := unassignedHalt s
def execUnassignedC3 (s : State) : StepOut := unassignedHalt s
def execUnassignedC4 (s : State) : StepOut := unassignedHalt s
def execUnassignedC5 (s : State) : StepOut := unassignedHalt s
def execUnassignedC6 (s : State) : StepOut := unassignedHalt s
def execUnassignedC7 (s : State) : StepOut := unassignedHalt s
def execUnassignedC8 (s : State) : StepOut := unassignedHalt s
def execUnassignedC9 (s : State) : StepOut := unassignedHalt s
def execUnassignedCA (s : State) : StepOut := unassignedHalt s
def execUnassignedCB (s : State) : StepOut := unassignedHalt s
def execUnassignedCC (s : State) : StepOut := unassignedHalt s
def execUnassignedCD (s : State) : StepOut := unassignedHalt s
def execUnassignedCE (s : State) : StepOut := unassignedHalt s
def execUnassignedCF (s : State) : StepOut := unassignedHalt s
def execUnassignedD0 (s : State) : StepOut := unassignedHalt s
def execUnassignedD1 (s : State) : StepOut := unassignedHalt s
def execUnassignedD2 (s : State) : StepOut := unassignedHalt s
def execUnassignedD3 (s : State) : StepOut := unassignedHalt s
def execUnassignedD4 (s : State) : StepOut := unassignedHalt s
def execUnassignedD5 (s : State) : StepOut := unassignedHalt s
def execUnassignedD6 (s : State) : StepOut := unassignedHalt s
def execUnassignedD7 (s : State) : StepOut := unassignedHalt s
def execUnassignedD8 (s : State) : StepOut := unassignedHalt s
def execUnassignedD9 (s : State) : StepOut := unassignedHalt s
def execUnassignedDA (s : State) : StepOut := unassignedHalt s
def execUnassignedDB (s : State) : StepOut := unassignedHalt s
def execUnassignedDC (s : State) : StepOut := unassignedHalt s
def execUnassignedDD (s : State) : StepOut := unassignedHalt s
def execUnassignedDE (s : State) : StepOut := unassignedHalt s
def execUnassignedDF (s : State) : StepOut := unassignedHalt s
def execUnassignedE0 (s : State) : StepOut := unassignedHalt s
def execUnassignedE1 (s : State) : StepOut := unassignedHalt s
def execUnassignedE2 (s : State) : StepOut := unassignedHalt s
def execUnassignedE3 (s : State) : StepOut := unassignedHalt s
def execUnassignedE4 (s : State) : StepOut := unassignedHalt s
def execUnassignedE5 (s : State) : StepOut := unassignedHalt s
def execUnassignedE6 (s : State) : StepOut := unassignedHalt s
def execUnassignedE7 (s : State) : StepOut := unassignedHalt s
def execUnassignedE8 (s : State) : StepOut := unassignedHalt s
def execUnassignedE9 (s : State) : StepOut := unassignedHalt s
def execUnassignedEA (s : State) : StepOut := unassignedHalt s
def execUnassignedEB (s : State) : StepOut := unassignedHalt s
def execUnassignedEC (s : State) : StepOut := unassignedHalt s
def execUnassignedED (s : State) : StepOut := unassignedHalt s
def execUnassignedEE (s : State) : StepOut := unassignedHalt s
def execUnassignedEF (s : State) : StepOut := unassignedHalt s
def execUnassignedF0 (s : State) : StepOut := unassignedHalt s
def execUnassignedF1 (s : State) : StepOut := unassignedHalt s
def execUnassignedF2 (s : State) : StepOut := unassignedHalt s
def execUnassignedF3 (s : State) : StepOut := unassignedHalt s
def execUnassignedF4 (s : State) : StepOut := unassignedHalt s
def execUnassignedF5 (s : State) : StepOut := unassignedHalt s
def execUnassignedF6 (s : State) : StepOut := unassignedHalt s
def execUnassignedF7 (s : State) : StepOut := unassignedHalt s
def execUnassignedF8 (s : State) : StepOut := unassignedHalt s
def execUnassignedF9 (s : State) : StepOut := unassignedHalt s
def execUnassignedFA (s : State) : StepOut := unassignedHalt s
def execUnassignedFB (s : State) : StepOut := unassignedHalt s
def execUnassignedFC (s : State) : StepOut := unassignedHalt s
def execUnassignedFD (s : State) : StepOut := unassignedHalt s
def execUnassignedFF (s : State) : StepOut := unassignedHalt s

end Sys2Proof.Machine
end

