-- ==== Sys2Proof/Machine/Step.lean ====
section
/-! DEFINITION. One step of the core (40_program_and_loop.md R122), and the word the host places where it fetches. -/

namespace Sys2Proof.Machine

/-- One step, "enabled only while `STATUS = Running`" (R122); after the run is over there is none (log 4). -/
def step (s : State) : Host.Outcome State Fault Refusal :=
  match s.status with
  | .running => runningStep exec s
  | .halted => .fault .runOver
  | .failed => .fault .runOver

/-- `s` with an instruction's bytes (zeros above `nbits`, 33 bytes in all) in code space at `pc`, VALID computed from the
program so changed (R120), and the run in progress: what `load_code` and `start` would have set (log 13). -/
def State.withFetchWord (s : State) (nbits w : Nat) : State :=
  let code := placeBytes s.code s.pc (tableWordBytes nbits w)
  { s with status := .running, code := code, valid := validDestinations code }

end Sys2Proof.Machine
end

