-- ==== Sys2Proof/Machine/HostPort.lean ====
section
/-! DEFINITION. The host interface (70_reset_and_hazards.md R350 to R354): what the host loads before a run, `start`,
and what it reads after it. While a run is in progress the host has no operation: `Loaded` is reached from a State only
when the run is over (93_implementation_defined.md U12, log 12). -/

namespace Sys2Proof.Machine

/-- What the host has loaded: the program, the two context banks, and the parameters of the core it is loaded into. -/
structure Loaded where
  code : List Byte
  tx   : TxBank
  blk  : BlkBank
  cfg  : Config
deriving DecidableEq, Repr

/-- A core before its first run, with nothing loaded. -/
def Loaded.none (cfg : Config) : Loaded := { code := [], tx := .absent, blk := .absent, cfg := cfg }

/-- `load_code(bytes)` (R352): "refused (no effect) if the length exceeds `CODE_MAX`". -/
def Loaded.loadCode (l : Loaded) (bytes : List Byte) : Loaded :=
  if bytes.length ≤ l.cfg.codeMax then { l with code := bytes } else l

/-- A context register loaded `absent` or with a Word (R352). -/
def CtxReg.load : Option Word → CtxReg
  | .none => .absent
  | some w => { present := true, value := w }

/-- The Transaction of the call contract (10_state.md R32, R34). -/
structure TxArgs where
  recipient : Option Word
  sender   : Option Word
  origin   : Option Word
  gasPrice : Option Word
  value    : Option Word
  data     : Option (List Byte)
  gas      : Option Word
deriving DecidableEq, Repr

/-- The Block of the call contract (10_state.md R32). -/
structure BlkArgs where
  baseFee    : Option Word
  coinBase   : Option Word
  timestamp  : Option Word
  number     : Option Word
  difficulty : Option Word
  gasLimit   : Option Word
  chainId    : Option Word
deriving DecidableEq, Repr

/-- `load_tx` (R352): `value`, `data` and `gas` are "accepted and dropped" (R34). -/
def Loaded.loadTx (l : Loaded) : Option TxArgs → Loaded
  | .none => { l with tx := .absent }
  | some t => { l with tx :=
      { present := true, recipient := .load t.recipient, sender := .load t.sender, origin := .load t.origin,
        gasPrice := .load t.gasPrice } }

/-- `load_block` (R352). -/
def Loaded.loadBlock (l : Loaded) : Option BlkArgs → Loaded
  | .none => { l with blk := .absent }
  | some b => { l with blk :=
      { present := true, baseFee := .load b.baseFee, coinBase := .load b.coinBase, timestamp := .load b.timestamp,
        number := .load b.number, difficulty := .load b.difficulty, gasLimit := .load b.gasLimit,
        chainId := .load b.chainId } }

/-- `start` (R350, R352): the reset values of 10_state.md R44, the program and context as loaded, VALID computed from
the program. -/
def start (l : Loaded) : State where
  stack  := []
  pc     := 0
  status := .running
  fault  := .none
  mem    := { cells := [], len := 0 }
  code   := l.code
  valid  := validDestinations l.code
  tx     := l.tx
  blk    := l.blk
  cfg    := l.cfg

/-- `done` (R352): true iff STATUS is Halted or Failed. -/
def State.done (s : State) : Bool := decide (s.status ≠ .running)

/-- What the host holds between runs: none while a run is in progress, when no load operation exists. -/
def State.betweenRuns (s : State) : Option Loaded :=
  if s.done then some { code := s.code, tx := s.tx, blk := s.blk, cfg := s.cfg } else .none

/-- The ExecutionResult: the stack top first, and the success flag (10_state.md R26). Memory, pc and FAULT are not part
of it. -/
structure ExecutionResult where
  stack   : List Word
  success : Bool
deriving DecidableEq, Repr

/-- `result` (R352), meaningful only when `done`. -/
def State.result (s : State) : Option ExecutionResult :=
  s.status.success.map fun ok => { stack := s.stack, success := ok }

/-- The diagnostics beside the ExecutionResult (R352, 10_state.md R25, R27). -/
structure Diag where
  fault : Nat
  pc    : Nat
deriving DecidableEq, Repr

/-- `diag.fault`, the code in the FAULT register, and `diag.pc`, the frozen pc (R352): meaningful only when `done`. -/
def State.diag (s : State) : Option Diag :=
  if s.done then some { fault := s.faultCode, pc := s.pc } else .none

/-- Steps until the run is over or the fuel is used up; fuel is the model's, not the machine's (R126, R356, log 11). -/
def runFuel : Nat → State → State
  | 0, s => s
  | fuel + 1, s =>
    match step s with
    | .next t => runFuel fuel t
    | .fault _ => s
    | .refused _ => s

/-- `execute(program, transaction, block)` (R352) under fuel: none when the program is refused or the fuel ends first,
which is no result of the machine (R354). -/
def execute (cfg : Config) (fuel : Nat) (program : List Byte) (tx : Option TxArgs) (blk : Option BlkArgs) :
    Option ExecutionResult :=
  if program.length ≤ cfg.codeMax then
    (runFuel fuel (start ((((Loaded.none cfg).loadCode program).loadTx tx).loadBlock blk))).result
  else .none

end Sys2Proof.Machine
end

