-- ==== Sys2Proof/Safety.lean ====
section
/-! DEFINITION. What counts as a state of a run and as a safe run, in the terms the statements use. -/

namespace Sys2Proof.Machine

/-- The invariants the spec states of the machine's state. -/
structure State.Inv (s : State) : Prop where
  /-- "`depth <= 1024` at every step" (10_state.md R22) -/
  depth_le : s.depth ≤ Config.stackMax
  /-- memory is in its canonical form and MLEN is a multiple of 32 (R29) -/
  mem_wf : s.mem.wf = true
  /-- "`MLEN <= MEM_LIMIT`" (R29) -/
  mlen_le : s.mem.len ≤ s.cfg.memLimit
  /-- "`0 <= CODE_LEN <= CODE_MAX`" (R30) -/
  code_le : s.code.length ≤ s.cfg.codeMax
  /-- VALID is the set the scan builds from Code (R31) -/
  valid_eq : s.valid = validDestinations s.code
  /-- "`pc` never exceeds `CODE_LEN + 32`" (R25) -/
  pc_le : s.pc ≤ s.code.length + Config.pushMax
  /-- the pc stands on an offset the scan visited as an opcode, or at or past the end (30_encoding.md R98) -/
  pc_on_opcode : s.pc ∈ opcodeOffsets s.code ∨ s.code.length ≤ s.pc
  /-- FAULT is None exactly when the run has not failed (R27, 60_exceptions.md R320) -/
  fault_iff : s.fault = none ↔ s.status ≠ .failed

/-- A run that has not failed. -/
def State.safe (s : State) : Bool := decide (s.status ≠ .failed)

end Sys2Proof.Machine
end

