-- ==== Sys2Proof/Certificates/Slice0/Obligations.lean ====
section
/-! DEFINITION. The statements for the provers, made from the numbered rules of spec/. `Claim` holds the terms they are
written in: the rules' own formulas and tables, set down again from the spec and not taken from the model. -/

namespace Sys2Proof.Claim

open Sys2Proof.Machine

/-- The state after a step that goes on to the instruction `n` bytes further and leaves the stack `st`: every other field
is as before. -/
def goesOn (st : List Word) (n : Nat) (s : State) : State := { s with stack := st, pc := s.pc + n }

/-- The state after a step that fails with kind `k` (60_exceptions.md R329) and leaves the stack `st`: STATUS Failed, FAULT
`k`, every other field as before. -/
def failed (k : FailureKind) (st : List Word) (s : State) : State :=
  { s with stack := st, status := .failed, fault := some k }

/-- The state after `halt()` (45_control_flow.md R284). -/
def halted (s : State) : State := { s with status := .halted }

/-- Format O with this opcode: the one byte encodes the instruction, and decodes to it whatever follows
(30_encoding.md R90, R94). -/
def HasOpcode (op : Byte) (i : Instr) : Prop := encode i = [op] ∧ ∀ rest, decode (op :: rest) = .ok i

/-- The one-operand template (43_compare_bitwise_shift.md R240), with what the result `r` of the operand is. -/
def UnaryRule (op : Byte) (i : Instr) (isResult : Word → Word → Prop) : Prop :=
  HasOpcode op i ∧
  (∀ s a rest, s.depth ≤ 1024 → s.stack = a :: rest →
    ∃ r, isResult a r ∧ exec i s = .next (goesOn (r :: rest) 1 s)) ∧
  (∀ s, s.depth < 1 → exec i s = .next (failed .stackUnderflow s.stack s))

/-- The two-operand template (42_arithmetic.md R220), with what the result of the operands is. -/
def BinaryRule (op : Byte) (i : Instr) (isResult : Word → Word → Word → Prop) : Prop :=
  HasOpcode op i ∧
  (∀ s a b rest, s.depth ≤ 1024 → s.stack = a :: b :: rest →
    ∃ r, isResult a b r ∧ exec i s = .next (goesOn (r :: rest) 1 s)) ∧
  (∀ s, s.depth < 2 → exec i s = .next (failed .stackUnderflow s.stack s))

/-- The three-operand template (42_arithmetic.md R220). -/
def TernaryRule (op : Byte) (i : Instr) (isResult : Word → Word → Word → Word → Prop) : Prop :=
  HasOpcode op i ∧
  (∀ s a b n rest, s.depth ≤ 1024 → s.stack = a :: b :: n :: rest →
    ∃ r, isResult a b n r ∧ exec i s = .next (goesOn (r :: rest) 1 s)) ∧
  (∀ s, s.depth < 3 → exec i s = .next (failed .stackUnderflow s.stack s))

/-- An instruction that pops nothing and pushes `value s`: complete below the bound, StackOverflow at it. -/
def PushRule (op : Byte) (i : Instr) (value : State → Word) : Prop :=
  HasOpcode op i ∧
  (∀ s, s.depth < 1024 → exec i s = .next (goesOn (value s :: s.stack) 1 s)) ∧
  (∀ s, s.depth = 1024 → exec i s = .next (failed .stackOverflow s.stack s))

/-- A context instruction (46_context_gas.md R300) reading the register `reg` of the bank whose presence bit is `bank`. -/
def ContextRule (op : Byte) (i : Instr) (bank : State → Bool) (reg : State → CtxReg) : Prop :=
  HasOpcode op i ∧
  (∀ s, bank s = true → s.depth < 1024 → (reg s).present = true →
    exec i s = .next (goesOn ((reg s).value :: s.stack) 1 s)) ∧
  (∀ s, bank s = true → s.depth < 1024 → (reg s).present = false →
    exec i s = .next (goesOn (0 :: s.stack) 1 s)) ∧
  (∀ s, bank s = false → exec i s = .next (failed .missingExecutionContext s.stack s)) ∧
  (∀ s, bank s = true → s.depth = 1024 → exec i s = .next (failed .stackOverflow s.stack s))

/-- `byte(w, i)` of 00_scope.md R10 as a quotient: byte `i` from the most significant. -/
def byteOf (w : Word) (i : Nat) : Byte := BitVec.ofNat 8 (w.toNat / 256 ^ (31 - i))

/-- The PUSH instructions with their `N` (41_stack_ops.md R142 to R174). -/
def pushInstrs : List (Nat × (Word → Instr)) :=
  [ (1, .push1), (2, .push2), (3, .push3), (4, .push4), (5, .push5), (6, .push6), (7, .push7), (8, .push8),
    (9, .push9), (10, .push10), (11, .push11), (12, .push12), (13, .push13), (14, .push14), (15, .push15), (16, .push16),
    (17, .push17), (18, .push18), (19, .push19), (20, .push20), (21, .push21), (22, .push22), (23, .push23), (24, .push24),
    (25, .push25), (26, .push26), (27, .push27), (28, .push28), (29, .push29), (30, .push30), (31, .push31), (32, .push32) ]

/-- The DUP instructions with their `n` (R175 to R191). -/
def dupInstrs : List (Nat × Instr) :=
  [ (1, .dup1), (2, .dup2), (3, .dup3), (4, .dup4), (5, .dup5), (6, .dup6), (7, .dup7), (8, .dup8),
    (9, .dup9), (10, .dup10), (11, .dup11), (12, .dup12), (13, .dup13), (14, .dup14), (15, .dup15), (16, .dup16) ]

/-- The SWAP instructions with their `n` (R192 to R208). -/
def swapInstrs : List (Nat × Instr) :=
  [ (1, .swap1), (2, .swap2), (3, .swap3), (4, .swap4), (5, .swap5), (6, .swap6), (7, .swap7), (8, .swap8),
    (9, .swap9), (10, .swap10), (11, .swap11), (12, .swap12), (13, .swap13), (14, .swap14), (15, .swap15), (16, .swap16) ]

/-- The 143 unassigned opcodes (30_encoding.md R96). -/
def unassignedInstrs : List Instr :=
  [ .unassigned0C, .unassigned0D, .unassigned0E, .unassigned0F, .unassigned1E, .unassigned1F, .unassigned21, .unassigned22,
    .unassigned23, .unassigned24, .unassigned25, .unassigned26, .unassigned27, .unassigned28, .unassigned29, .unassigned2A,
    .unassigned2B, .unassigned2C, .unassigned2D, .unassigned2E, .unassigned2F, .unassigned31, .unassigned34, .unassigned35,
    .unassigned36, .unassigned37, .unassigned38, .unassigned39, .unassigned3B, .unassigned3C, .unassigned3D, .unassigned3E,
    .unassigned3F, .unassigned40, .unassigned47, .unassigned49, .unassigned4A, .unassigned4B, .unassigned4C, .unassigned4D,
    .unassigned4E, .unassigned4F, .unassigned54, .unassigned55, .unassigned5C, .unassigned5D, .unassigned5E, .unassigned5F,
    .unassignedA0, .unassignedA1, .unassignedA2, .unassignedA3, .unassignedA4, .unassignedA5, .unassignedA6, .unassignedA7,
    .unassignedA8, .unassignedA9, .unassignedAA, .unassignedAB, .unassignedAC, .unassignedAD, .unassignedAE, .unassignedAF,
    .unassignedB0, .unassignedB1, .unassignedB2, .unassignedB3, .unassignedB4, .unassignedB5, .unassignedB6, .unassignedB7,
    .unassignedB8, .unassignedB9, .unassignedBA, .unassignedBB, .unassignedBC, .unassignedBD, .unassignedBE, .unassignedBF,
    .unassignedC0, .unassignedC1, .unassignedC2, .unassignedC3, .unassignedC4, .unassignedC5, .unassignedC6, .unassignedC7,
    .unassignedC8, .unassignedC9, .unassignedCA, .unassignedCB, .unassignedCC, .unassignedCD, .unassignedCE, .unassignedCF,
    .unassignedD0, .unassignedD1, .unassignedD2, .unassignedD3, .unassignedD4, .unassignedD5, .unassignedD6, .unassignedD7,
    .unassignedD8, .unassignedD9, .unassignedDA, .unassignedDB, .unassignedDC, .unassignedDD, .unassignedDE, .unassignedDF,
    .unassignedE0, .unassignedE1, .unassignedE2, .unassignedE3, .unassignedE4, .unassignedE5, .unassignedE6, .unassignedE7,
    .unassignedE8, .unassignedE9, .unassignedEA, .unassignedEB, .unassignedEC, .unassignedED, .unassignedEE, .unassignedEF,
    .unassignedF0, .unassignedF1, .unassignedF2, .unassignedF3, .unassignedF4, .unassignedF5, .unassignedF6, .unassignedF7,
    .unassignedF8, .unassignedF9, .unassignedFA, .unassignedFB, .unassignedFC, .unassignedFD, .unassignedFF ]

/-- The byte values of the list of R96. -/
def unassignedByte (n : Nat) : Bool :=
  decide (0x0C ≤ n ∧ n ≤ 0x0F) || decide (n = 0x1E) || decide (n = 0x1F) || decide (0x21 ≤ n ∧ n ≤ 0x2F) ||
  decide (n = 0x31) || decide (0x34 ≤ n ∧ n ≤ 0x39) || decide (0x3B ≤ n ∧ n ≤ 0x40) || decide (n = 0x47) ||
  decide (0x49 ≤ n ∧ n ≤ 0x4F) || decide (n = 0x54) || decide (n = 0x55) || decide (0x5C ≤ n ∧ n ≤ 0x5F) ||
  decide (0xA0 ≤ n ∧ n ≤ 0xFD) || decide (n = 0xFF)

/-- The immediate of `N` bytes at the head of `rest` as R92 sums it: `imm[i]` weighs `256^(N-1-i)`, and a missing byte
is 0x00. -/
def immediateSum (N : Nat) (rest : List Byte) : Nat :=
  ((List.range N).map fun i => (rest.getD i 0).toNat * 256 ^ (N - 1 - i)).sum

/-- The loop of 40_program_and_loop.md R120 from the cursor `i`, with `fuel` turns at most. -/
def scanLoop (code : List Byte) : Nat → Nat → List Nat → List Nat
  | 0, _, valid => valid
  | fuel + 1, i, valid =>
    if i < code.length then
      let b := (code.getD i 0).toNat
      if 0x60 ≤ b ∧ b ≤ 0x7F then scanLoop code fuel (i + (b - 0x5F) + 1) valid
      else scanLoop code fuel (i + 1) (if b = 0x5B then valid ++ [i] else valid)
    else valid

/-- The offsets at which the cursor of the same loop stands. -/
def cursorLoop (code : List Byte) : Nat → Nat → List Nat → List Nat
  | 0, _, visited => visited
  | fuel + 1, i, visited =>
    if i < code.length then
      let b := (code.getD i 0).toNat
      cursorLoop code fuel (if 0x60 ≤ b ∧ b ≤ 0x7F then i + (b - 0x5F) + 1 else i + 1) (visited ++ [i])
    else visited

/-- A Word is a valid jump destination of the program: its unsigned reading is below CODE_LEN, the byte there is 0x5B,
and the scan visited that offset as an opcode, so that it is not PUSH immediate data (R121). -/
def ValidDestination (code : List Byte) (t : Word) : Prop :=
  t.toNat < code.length ∧ code[t.toNat]? = some 0x5B ∧ t.toNat ∈ opcodeOffsets code

/-- A window of `len` bytes at `off` that needs no growth, or grows within MEM_LIMIT (20_memory.md R68). -/
def Fits (s : State) (off len : Nat) : Prop := off + len ≤ s.mem.len ∨ off + len ≤ s.cfg.memLimit

/-- A window that needs growth beyond MEM_LIMIT (20_memory.md R68). -/
def TooFar (s : State) (off len : Nat) : Prop := s.mem.len < off + len ∧ s.cfg.memLimit < off + len

/-- Memory `m` after `MemEnsure(off, len)` and a store to the bytes for which `stored` holds (20_memory.md R62, R64):
the length, every byte not stored to that existed as before, every other new byte zero, and the canonical form. -/
def GrownTo (s : State) (off len : Nat) (stored : Nat → Prop) (m : Memory) : Prop :=
  m.len = (if s.mem.len < off + len then 32 * ((off + len + 31) / 32) else s.mem.len) ∧
  (∀ a, ¬ stored a → a < s.mem.len → m.byte? a = s.mem.byte? a) ∧
  (∀ a, ¬ stored a → s.mem.len ≤ a → a < m.len → m.byte? a = some 0) ∧
  (∀ a, m.len ≤ a → m.byte? a = none) ∧
  m.wf = true

/-- The number of stack entries an instruction needs, the `k` of `need(k)` (60_exceptions.md R321). -/
def needs : Instr → Nat
  | .add | .mul | .sub | .div | .sdiv | .mod | .smod | .exp | .signextend => 2
  | .lt | .gt | .slt | .sgt | .eq | .and | .or | .xor | .byte | .shl | .shr | .sar => 2
  | .mstore | .mstore8 | .keccak256 | .jumpi => 2
  | .addmod | .mulmod => 3
  | .iszero | .not | .pop | .mload | .jump => 1
  | .dup1 => 1 | .dup2 => 2 | .dup3 => 3 | .dup4 => 4 | .dup5 => 5 | .dup6 => 6 | .dup7 => 7 | .dup8 => 8
  | .dup9 => 9 | .dup10 => 10 | .dup11 => 11 | .dup12 => 12 | .dup13 => 13 | .dup14 => 14 | .dup15 => 15 | .dup16 => 16
  | .swap1 => 2 | .swap2 => 3 | .swap3 => 4 | .swap4 => 5 | .swap5 => 6 | .swap6 => 7 | .swap7 => 8 | .swap8 => 9
  | .swap9 => 10 | .swap10 => 11 | .swap11 => 12 | .swap12 => 13 | .swap13 => 14 | .swap14 => 15 | .swap15 => 16 | .swap16 => 17
  | _ => 0

/-- The number of entries removed from the stack (the `pops` column of 30_encoding.md R94, where DUP and SWAP remove
none). -/
def pops : Instr → Nat
  | .dup1 | .dup2 | .dup3 | .dup4 | .dup5 | .dup6 | .dup7 | .dup8
  | .dup9 | .dup10 | .dup11 | .dup12 | .dup13 | .dup14 | .dup15 | .dup16 => 0
  | .swap1 | .swap2 | .swap3 | .swap4 | .swap5 | .swap6 | .swap7 | .swap8
  | .swap9 | .swap10 | .swap11 | .swap12 | .swap13 | .swap14 | .swap15 | .swap16 => 0
  | i => needs i

/-- The number of Words pushed on success (the `pushes` column of R94). -/
def pushes : Instr → Nat
  | .pop | .mstore | .mstore8 | .jump | .jumpi | .jumpdest | .stop | .invalid => 0
  | .swap1 | .swap2 | .swap3 | .swap4 | .swap5 | .swap6 | .swap7 | .swap8
  | .swap9 | .swap10 | .swap11 | .swap12 | .swap13 | .swap14 | .swap15 | .swap16 => 0
  | .unassigned0C | .unassigned0D | .unassigned0E | .unassigned0F | .unassigned1E | .unassigned1F | .unassigned21 | .unassigned22
  | .unassigned23 | .unassigned24 | .unassigned25 | .unassigned26 | .unassigned27 | .unassigned28 | .unassigned29 | .unassigned2A
  | .unassigned2B | .unassigned2C | .unassigned2D | .unassigned2E | .unassigned2F | .unassigned31 | .unassigned34 | .unassigned35
  | .unassigned36 | .unassigned37 | .unassigned38 | .unassigned39 | .unassigned3B | .unassigned3C | .unassigned3D | .unassigned3E
  | .unassigned3F | .unassigned40 | .unassigned47 | .unassigned49 | .unassigned4A | .unassigned4B | .unassigned4C | .unassigned4D
  | .unassigned4E | .unassigned4F | .unassigned54 | .unassigned55 | .unassigned5C | .unassigned5D | .unassigned5E | .unassigned5F
  | .unassignedA0 | .unassignedA1 | .unassignedA2 | .unassignedA3 | .unassignedA4 | .unassignedA5 | .unassignedA6 | .unassignedA7
  | .unassignedA8 | .unassignedA9 | .unassignedAA | .unassignedAB | .unassignedAC | .unassignedAD | .unassignedAE | .unassignedAF
  | .unassignedB0 | .unassignedB1 | .unassignedB2 | .unassignedB3 | .unassignedB4 | .unassignedB5 | .unassignedB6 | .unassignedB7
  | .unassignedB8 | .unassignedB9 | .unassignedBA | .unassignedBB | .unassignedBC | .unassignedBD | .unassignedBE | .unassignedBF
  | .unassignedC0 | .unassignedC1 | .unassignedC2 | .unassignedC3 | .unassignedC4 | .unassignedC5 | .unassignedC6 | .unassignedC7
  | .unassignedC8 | .unassignedC9 | .unassignedCA | .unassignedCB | .unassignedCC | .unassignedCD | .unassignedCE | .unassignedCF
  | .unassignedD0 | .unassignedD1 | .unassignedD2 | .unassignedD3 | .unassignedD4 | .unassignedD5 | .unassignedD6 | .unassignedD7
  | .unassignedD8 | .unassignedD9 | .unassignedDA | .unassignedDB | .unassignedDC | .unassignedDD | .unassignedDE | .unassignedDF
  | .unassignedE0 | .unassignedE1 | .unassignedE2 | .unassignedE3 | .unassignedE4 | .unassignedE5 | .unassignedE6 | .unassignedE7
  | .unassignedE8 | .unassignedE9 | .unassignedEA | .unassignedEB | .unassignedEC | .unassignedED | .unassignedEE | .unassignedEF
  | .unassignedF0 | .unassignedF1 | .unassignedF2 | .unassignedF3 | .unassignedF4 | .unassignedF5 | .unassignedF6 | .unassignedF7
  | .unassignedF8 | .unassignedF9 | .unassignedFA | .unassignedFB | .unassignedFC | .unassignedFD | .unassignedFF => 0
  | _ => 1

/-- ADDRESS, ORIGIN, CALLER, GASPRICE read the Transaction bank (60_exceptions.md R324). -/
def readsTx (i : Instr) : Prop := i ∈ [Instr.address, .origin, .caller, .gasprice]

/-- COINBASE, TIMESTAMP, NUMBER, DIFFICULTY, GASLIMIT, CHAINID, BASEFEE read the Block bank (R324). -/
def readsBlk (i : Instr) : Prop :=
  i ∈ [Instr.coinbase, .timestamp, .number, .difficulty, .gaslimit, .chainid, .basefee]

/-- The column StackOverflow of 60_exceptions.md R331: the instructions that can push onto a full stack. -/
def canOverflow (i : Instr) : Prop :=
  (∃ p ∈ pushInstrs, ∃ imm, i = p.2 imm) ∨ (∃ p ∈ dupInstrs, i = p.2) ∨ i ∈ [Instr.pc, .msize, .gas] ∨
  readsTx i ∨ readsBlk i

/-- When the bank an instruction reads was not supplied (R324). -/
def bankMissing (i : Instr) (s : State) : Prop :=
  (readsTx i ∧ s.tx.present = false) ∨ (readsBlk i ∧ s.blk.present = false)

/-- The window an instruction needs in memory, from the stack it starts with (44_memory_hash.md R260 to R264). -/
def window (i : Instr) (st : List Word) : Option (Nat × Nat) :=
  match i, st with
  | .mload, off :: _ => some (off.toNat, 32)
  | .mstore, off :: _ :: _ => some (off.toNat, 32)
  | .mstore8, off :: _ :: _ => some (off.toNat, 1)
  | .keccak256, off :: len :: _ => some (off.toNat, len.toNat)
  | _, _ => none

/-- The target of a JUMP, or of a JUMPI whose condition is not zero, from the stack it starts with (R281, R282). -/
def jumpTarget (i : Instr) (st : List Word) : Option Word :=
  match i, st with
  | .jump, t :: _ => some t
  | .jumpi, t :: c :: _ => if c = 0 then none else some t
  | _, _ => none

/-- The table of 60_exceptions.md R331 with the priority of R328: when instruction `i` fails with kind `k`. -/
def failsWith (i : Instr) (s : State) : FailureKind → Prop
  | .stackUnderflow => s.depth < needs i
  | .stackOverflow => canOverflow i ∧ s.depth = 1024 ∧ ¬ bankMissing i s
  | .invalidJumpDestination => ∃ t, jumpTarget i s.stack = some t ∧ ¬ ValidDestination s.code t
  | .missingExecutionContext => bankMissing i s
  | .explicitFault => i = .invalid
  | .memoryLimitExceeded => ∃ w, window i s.stack = some w ∧ TooFar s w.1 w.2

/-- `rol(v, r)` of 44_memory_hash.md R266. -/
def rol (v : Keccak.Lane) (r : Nat) : Keccak.Lane := (v <<< (r % 64)) ||| (v >>> (64 - r % 64))

/-- The rotation offsets of R267, read down the columns of the table: one list over `x` for each `y`. -/
def rot (x y : Nat) : Nat :=
  match y with
  | 0 => [0, 1, 62, 28, 27].getD x 0
  | 1 => [36, 44, 6, 55, 20].getD x 0
  | 2 => [3, 10, 43, 25, 39].getD x 0
  | 3 => [41, 45, 15, 21, 8].getD x 0
  | _ => [18, 2, 61, 56, 14].getD x 0

/-- The round constants of R268, read down the three columns. -/
def roundConstants : List Keccak.Lane :=
  [ 0x0000000000000001, 0x0000000000008082, 0x800000000000808A, 0x8000000080008000, 0x000000000000808B,
    0x0000000080000001, 0x8000000080008081, 0x8000000000008009 ] ++
  [ 0x000000000000008A, 0x0000000000000088, 0x0000000080008009, 0x000000008000000A, 0x000000008000808B,
    0x800000000000008B, 0x8000000000008089, 0x8000000000008003 ] ++
  [ 0x8000000000008002, 0x8000000000000080, 0x000000000000800A, 0x800000008000000A, 0x8000000080008081,
    0x8000000000008080, 0x0000000080000001, 0x8000000080008008 ]

/-- `C[x]` of theta (R267). -/
def column (A : List Keccak.Lane) (x : Nat) : Keccak.Lane :=
  Keccak.lane A x 0 ^^^ Keccak.lane A x 1 ^^^ Keccak.lane A x 2 ^^^ Keccak.lane A x 3 ^^^ Keccak.lane A x 4

/-- The lane whose byte `j` is `P[k + j]`, the first byte least significant (44_memory_hash.md R266). -/
def laneAt (P : List Byte) (k : Nat) : Keccak.Lane :=
  BitVec.ofNat 64 ((List.range 8).map fun j => (P.getD (k + j) 0).toNat * 256 ^ j).sum

/-- The state after the first `b` blocks of 136 bytes of the padded message `P`: all lanes zero at first; each block is
exclusive-ored into lanes 0 to 16, the other 8 left as they are, and the permutation follows (R269). -/
def sponge (P : List Byte) : Nat → List Keccak.Lane
  | 0 => List.replicate 25 0
  | b + 1 => Keccak.permute ((List.range 25).map fun i =>
      (sponge P b).getD i 0 ^^^ (if i < 17 then laneAt P (136 * b + 8 * i) else 0))

/-- A context register as the host's load of the field makes it (70_reset_and_hazards.md R352): an absent field gives
presence bit 0, a Word gives presence bit 1 and that value. -/
def HoldsField (r : CtxReg) : Option Word → Prop
  | none => r.present = false
  | some w => r.present = true ∧ r.value = w

end Sys2Proof.Claim

open Sys2Proof Sys2Proof.Machine Sys2Proof.Claim

/-- 10_state.md R44, the reset table. -/
def Obligations.StartSetsTheResetState : Prop :=
  (∀ l : Loaded,
    (start l).depth = 0 ∧ (∀ k, (start l).entry k = none) ∧ (start l).pc = 0 ∧ (start l).status = .running ∧
    (start l).result = none ∧ (start l).fault = none ∧ (start l).faultCode = 0 ∧
    (start l).mem.len = 0 ∧ (∀ a, (start l).mem.byte? a = none) ∧ (start l).code = l.code ∧
    (∀ t, (start l).validTarget t = true ↔ ValidDestination l.code t) ∧
    (start l).tx = l.tx ∧ (start l).blk = l.blk ∧ (start l).cfg = l.cfg) ∧
  (∀ l : Loaded, (l.loadTx none).tx.present = false ∧ (l.loadTx none).tx.recipient.present = false ∧
    (l.loadTx none).tx.sender.present = false ∧
    (l.loadTx none).tx.origin.present = false ∧
    (l.loadTx none).tx.gasPrice.present = false) ∧
  (∀ l : Loaded, (l.loadBlock none).blk.present = false ∧
    (l.loadBlock none).blk.baseFee.present = false ∧
    (l.loadBlock none).blk.coinBase.present = false ∧
    (l.loadBlock none).blk.timestamp.present = false ∧
    (l.loadBlock none).blk.number.present = false ∧
    (l.loadBlock none).blk.difficulty.present = false ∧
    (l.loadBlock none).blk.gasLimit.present = false ∧
    (l.loadBlock none).blk.chainId.present = false) ∧
  (∀ (l : Loaded) (t : TxArgs), (l.loadTx (some t)).tx.present = true ∧
    (l.loadTx (some t)).tx.recipient.present = t.recipient.isSome ∧
    (l.loadTx (some t)).tx.sender.present = t.sender.isSome ∧
    (l.loadTx (some t)).tx.origin.present = t.origin.isSome ∧
    (l.loadTx (some t)).tx.gasPrice.present = t.gasPrice.isSome) ∧
  (∀ (l : Loaded) (b : BlkArgs), (l.loadBlock (some b)).blk.present = true ∧
    (l.loadBlock (some b)).blk.baseFee.present = b.baseFee.isSome ∧
    (l.loadBlock (some b)).blk.coinBase.present = b.coinBase.isSome ∧
    (l.loadBlock (some b)).blk.timestamp.present = b.timestamp.isSome ∧
    (l.loadBlock (some b)).blk.number.present = b.number.isSome ∧
    (l.loadBlock (some b)).blk.difficulty.present = b.difficulty.isSome ∧
    (l.loadBlock (some b)).blk.gasLimit.present = b.gasLimit.isSome ∧
    (l.loadBlock (some b)).blk.chainId.present = b.chainId.isSome)

/-- The invariant at reset. That State.reset has nothing loaded and which parameter values it has are the model's choices (log 1, log 3). -/
def Obligations.ResetMeetsTheInvariant : Prop :=
  State.reset.Inv ∧ State.reset = start (Loaded.none resetConfig) ∧
  ∀ l : Loaded, l.code.length ≤ l.cfg.codeMax → (start l).Inv

/-- The invariants of 10_state.md R22, R25, R27, R29, R31 and 30_encoding.md R98, kept by every step. -/
def Obligations.StepKeepsTheInvariant : Prop :=
  ∀ s t : State, s.Inv → step s = .next t → t.Inv

/-- 30_encoding.md R90, R92, R94: decode and encode agree on all 256 instructions. -/
def Obligations.DecodeOfEncodeIsTheInstruction : Prop :=
  ∀ (i : Instr) (rest : List Byte), WellFormed i = true → decode (encode i ++ rest) = .ok i

/-- 30_encoding.md R91, R92, R97: the decoder is total, drops no bit, and reads len(op) bytes. -/
def Obligations.EncodeOfDecodeIsTheBytes : Prop :=
  ∀ (op : Byte) (rest : List Byte), ∃ i, decode (op :: rest) = .ok i ∧ WellFormed i = true ∧
    i.length = (if 0x60 ≤ op.toNat ∧ op.toNat ≤ 0x7F then 1 + (op.toNat - 0x5F) else 1) ∧
    (encode i).length = i.length ∧
    ∀ k, k < i.length → (encode i)[k]? = some ((op :: rest).getD k 0)

/-- 30_encoding.md R92, R93. -/
def Obligations.PushDecodesItsPaddedImmediate : Prop :=
  ∀ p ∈ pushInstrs, ∀ rest : List Byte,
    decode (BitVec.ofNat 8 (0x5F + p.1) :: rest) = .ok (p.2 (natWord (immediateSum p.1 rest)))

/-- 30_encoding.md R94, R96: sanity of the opcode map. -/
def Obligations.WrittenOutEncodingsDecode : Prop :=
  decode [0x00] = .ok .stop ∧ decode [0x01] = .ok .add ∧ decode [0x0B] = .ok .signextend ∧
  decode [0x1D] = .ok .sar ∧ decode [0x20] = .ok .keccak256 ∧ decode [0x30] = .ok .address ∧
  decode [0x48] = .ok .basefee ∧ decode [0x53] = .ok .mstore8 ∧ decode [0x5B] = .ok .jumpdest ∧
  decode [0x60, 0xFF] = .ok (.push1 0xFF) ∧ decode [0x61, 0x01, 0x02] = .ok (.push2 0x0102) ∧
  decode [0x61, 0xAB] = .ok (.push2 0xAB00) ∧ decode [0x8F] = .ok .dup16 ∧ decode [0x90] = .ok .swap1 ∧
  decode [0xFE] = .ok .invalid ∧ decode [0x5F] = .ok .unassigned5F ∧ decode [0xFF] = .ok .unassignedFF

/-- 40_program_and_loop.md R122. -/
def Obligations.StepRunsTheDecodedInstruction : Prop :=
  (∀ (s : State) (i : Instr), s.status = .running → decode (s.code.drop s.pc) = .ok i → step s = exec i s) ∧
  (∀ s : State, s.pc < s.code.length → ∃ i, decode (s.code.drop s.pc) = .ok i)

/-- 40_program_and_loop.md R124. -/
def Obligations.NaturalEndHaltsWithSuccess : Prop :=
  (∀ s : State, s.status = .running → s.code.length ≤ s.pc →
    step s = .next (halted s) ∧ (halted s).result = some { stack := s.stack, success := true } ∧
    (s.Inv → (halted s).fault = none)) ∧
  (∀ (s : State) (t : Word), s.validTarget t = true → t.toNat < s.code.length) ∧
  (∀ l : Loaded, l.code = [] → step (start l) = .next (halted (start l)))

/-- 10_state.md R26, 60_exceptions.md R329. The form of the answer is the model's choice (log 4). -/
def Obligations.NoStepAfterTheRunIsOver : Prop :=
  ∀ s : State, s.status ≠ .running → step s = .fault .runOver

/-- 40_program_and_loop.md R120, the loop written out; its cursor gives the offsets of 30_encoding.md R98. -/
def Obligations.ScanIsTheLoopOfTheRule : Prop :=
  ∀ code : List Byte, validDestinations code = scanLoop code code.length 0 [] ∧
    opcodeOffsets code = cursorLoop code code.length 0 []

/-- 40_program_and_loop.md R121. -/
def Obligations.ValidMeansInTheScannedSet : Prop :=
  ∀ (s : State) (t : Word), s.Inv →
    (s.validTarget t = true ↔ t.toNat < s.code.length ∧ t.toNat ∈ validDestinations s.code) ∧
    (s.validTarget t = true ↔ ValidDestination s.code t)

/-- 41_stack_ops.md R141. -/
def Obligations.PopDiscardsTheTop : Prop :=
  HasOpcode 0x50 .pop ∧
  (∀ s a rest, s.stack = a :: rest → exec .pop s = .next (goesOn rest 1 s)) ∧
  (∀ s, s.depth = 0 → exec .pop s = .next (failed .stackUnderflow [] s))

/-- 41_stack_ops.md R142 for each of PUSH1 (R143) to PUSH32 (R174). -/
def Obligations.PushPushesItsImmediate : Prop :=
  ∀ p ∈ pushInstrs, ∀ (imm : Word) (s : State),
    (s.depth < 1024 → exec (p.2 imm) s = .next (goesOn (imm :: s.stack) (1 + p.1) s)) ∧
    (s.depth = 1024 → exec (p.2 imm) s = .next (failed .stackOverflow s.stack s))

/-- 41_stack_ops.md R142. -/
def Obligations.PushStepReadsItsBytesFromCode : Prop :=
  ∀ (s : State) (N : Nat) (rest : List Byte), 1 ≤ N → N ≤ 32 → s.status = .running →
    s.code.drop s.pc = BitVec.ofNat 8 (0x5F + N) :: rest →
    (s.depth < 1024 → step s = .next (goesOn (natWord (immediateSum N rest) :: s.stack) (1 + N) s)) ∧
    immediateSum N rest < 256 ^ N ∧
    (rest.length < N → s.depth < 1024 →
      step (goesOn (natWord (immediateSum N rest) :: s.stack) (1 + N) s) =
        .next (halted (goesOn (natWord (immediateSum N rest) :: s.stack) (1 + N) s))) ∧
    (s.depth = 1024 → step s = .next (failed .stackOverflow s.stack s)) ∧
    (s.Inv → ∀ j, s.pc < j → j < s.pc + 1 + N →
      j ∉ opcodeOffsets s.code ∧ ∀ t : Word, t.toNat = j → s.validTarget t = false)

/-- 41_stack_ops.md R175 for each of DUP1 (R176) to DUP16 (R191). -/
def Obligations.DupPushesACopyOfTheNthEntry : Prop :=
  ∀ p ∈ dupInstrs, HasOpcode (BitVec.ofNat 8 (0x7F + p.1)) p.2 ∧
    (∀ s w, s.entry p.1 = some w → s.depth < 1024 → exec p.2 s = .next (goesOn (w :: s.stack) 1 s)) ∧
    (∀ s, s.depth < p.1 → exec p.2 s = .next (failed .stackUnderflow s.stack s)) ∧
    (∀ s, s.depth = 1024 → exec p.2 s = .next (failed .stackOverflow s.stack s))

/-- 41_stack_ops.md R192 for each of SWAP1 (R193) to SWAP16 (R208); the reach n + 1 is the choice of 90_conflicts.md C3. -/
def Obligations.SwapExchangesTopAndNPlusFirst : Prop :=
  ∀ p ∈ swapInstrs, HasOpcode (BitVec.ofNat 8 (0x8F + p.1)) p.2 ∧
    (∀ s a mid b rest, s.stack = a :: (mid ++ b :: rest) → mid.length + 1 = p.1 →
      exec p.2 s = .next (goesOn (b :: (mid ++ a :: rest)) 1 s)) ∧
    (∀ s, s.depth < p.1 + 1 → exec p.2 s = .next (failed .stackUnderflow s.stack s))

/-- 42_arithmetic.md R221, R222, R223. -/
def Obligations.AddMulSubWrap : Prop :=
  BinaryRule 0x01 .add (fun a b r => r.toNat = (a.toNat + b.toNat) % 2 ^ 256) ∧
  BinaryRule 0x02 .mul (fun a b r => r.toNat = (a.toNat * b.toNat) % 2 ^ 256) ∧
  BinaryRule 0x03 .sub (fun a b r => r.toNat = (if b.toNat ≤ a.toNat then a.toNat - b.toNat
    else 2 ^ 256 + a.toNat - b.toNat))

/-- 42_arithmetic.md R224, R226. -/
def Obligations.UnsignedDivisionYieldsZeroByZero : Prop :=
  BinaryRule 0x04 .div (fun a b r => r.toNat = (if b.toNat = 0 then 0 else a.toNat / b.toNat)) ∧
  BinaryRule 0x06 .mod (fun a b r => (b.toNat = 0 → r.toNat = 0) ∧
    (b.toNat ≠ 0 → r.toNat < b.toNat ∧ a.toNat = b.toNat * (a.toNat / b.toNat) + r.toNat))

/-- 42_arithmetic.md R225, with tdiv of 00_scope.md R13 written out. -/
def Obligations.SignedDivisionTruncatesTowardZero : Prop :=
  BinaryRule 0x05 .sdiv (fun a b r =>
    (b.toInt = 0 → r = 0) ∧ (a = minS → b.toInt = -1 → r = minS) ∧
    (b.toInt ≠ 0 → ¬ (a = minS ∧ b.toInt = -1) →
      r.toInt = a.toInt.sign * b.toInt.sign * ((a.toInt.natAbs / b.toInt.natAbs : Nat) : Int)))

/-- 42_arithmetic.md R227. The sign of the remainder is the spec's own decision D15. -/
def Obligations.SignedRemainderHasTheSignOfTheDividend : Prop :=
  BinaryRule 0x07 .smod (fun a b r =>
    (b.toInt = 0 → r = 0) ∧
    (b.toInt ≠ 0 → r.toInt = a.toInt.sign * ((a.toInt.natAbs % b.toInt.natAbs : Nat) : Int) ∧
      r.toInt.natAbs < b.toInt.natAbs))

/-- 42_arithmetic.md R228, R229. -/
def Obligations.ModularSumAndProductAreExact : Prop :=
  TernaryRule 0x08 .addmod (fun a b n r => r.toNat = (if n.toNat = 0 then 0 else (a.toNat + b.toNat) % n.toNat)) ∧
  TernaryRule 0x09 .mulmod (fun a b n r => r.toNat = (if n.toNat = 0 then 0 else (a.toNat * b.toNat) % n.toNat))

/-- 42_arithmetic.md R230: the model's square-and-multiply refines the power. -/
def Obligations.ExpIsThePowerModuloTwoTo256 : Prop :=
  BinaryRule 0x0A .exp (fun a b r => r.toNat = a.toNat ^ b.toNat % 2 ^ 256)

/-- 42_arithmetic.md R231, bit by bit. -/
def Obligations.SignextendCopiesTheInspectedBit : Prop :=
  BinaryRule 0x0B .signextend (fun k x r =>
    (31 ≤ k.toNat → r = x) ∧
    (k.toNat < 31 →
      (∀ j, j ≤ 8 * (k.toNat + 1) - 1 → r.getLsbD j = x.getLsbD j) ∧
      (∀ j, 8 * (k.toNat + 1) - 1 < j → j < 256 → r.getLsbD j = x.getLsbD (8 * (k.toNat + 1) - 1))))

/-- 42_arithmetic.md R232 (d) and R226. -/
def Obligations.DivisionIdentitiesHold : Prop :=
  ∀ (s tq tr : State) (a b q r : Word) (rest : List Word), s.depth ≤ 1024 → s.stack = a :: b :: rest →
    tq.entry 1 = some q → tr.entry 1 = some r →
    (exec .div s = .next tq → exec .mod s = .next tr → b.toNat ≠ 0 → a.toNat = b.toNat * q.toNat + r.toNat) ∧
    (exec .sdiv s = .next tq → exec .smod s = .next tr → b.toInt ≠ 0 → ¬ (a = minS ∧ b.toInt = -1) →
      a.toInt = b.toInt * q.toInt + r.toInt)

/-- 43_compare_bitwise_shift.md R241 to R246. -/
def Obligations.ComparisonsPushOneOrZero : Prop :=
  BinaryRule 0x10 .lt (fun a b r => r = if a.toNat < b.toNat then 1 else 0) ∧
  BinaryRule 0x11 .gt (fun a b r => r = if b.toNat < a.toNat then 1 else 0) ∧
  BinaryRule 0x12 .slt (fun a b r => r = if a.toInt < b.toInt then 1 else 0) ∧
  BinaryRule 0x13 .sgt (fun a b r => r = if b.toInt < a.toInt then 1 else 0) ∧
  BinaryRule 0x14 .eq (fun a b r => r = if a.toNat = b.toNat then 1 else 0) ∧
  UnaryRule 0x15 .iszero (fun a r => r = if a.toNat = 0 then 1 else 0)

/-- 43_compare_bitwise_shift.md R247 to R250. -/
def Obligations.BitwiseActsOnEveryBit : Prop :=
  BinaryRule 0x16 .and (fun a b r => ∀ j, j < 256 → r.getLsbD j = (a.getLsbD j && b.getLsbD j)) ∧
  BinaryRule 0x17 .or (fun a b r => ∀ j, j < 256 → r.getLsbD j = (a.getLsbD j || b.getLsbD j)) ∧
  BinaryRule 0x18 .xor (fun a b r => ∀ j, j < 256 → r.getLsbD j = Bool.xor (a.getLsbD j) (b.getLsbD j)) ∧
  UnaryRule 0x19 .not (fun a r => (∀ j, j < 256 → r.getLsbD j = !a.getLsbD j) ∧ r.toNat = 2 ^ 256 - 1 - a.toNat)

/-- 43_compare_bitwise_shift.md R251. -/
def Obligations.ByteCountsFromTheMostSignificant : Prop :=
  BinaryRule 0x1A .byte (fun i x r =>
    r.toNat = if 32 ≤ i.toNat then 0 else x.toNat / 256 ^ (31 - i.toNat) % 256)

/-- 43_compare_bitwise_shift.md R252, R253, R254. -/
def Obligations.ShiftsMoveEveryBit : Prop :=
  BinaryRule 0x1B .shl (fun sh v r =>
    (256 ≤ sh.toNat → r = 0) ∧
    (sh.toNat < 256 → r.toNat = v.toNat * 2 ^ sh.toNat % 2 ^ 256 ∧
      ∀ j, j < 256 → r.getLsbD j = if sh.toNat ≤ j then v.getLsbD (j - sh.toNat) else false)) ∧
  BinaryRule 0x1C .shr (fun sh v r =>
    (256 ≤ sh.toNat → r = 0) ∧
    (sh.toNat < 256 → r.toNat = v.toNat / 2 ^ sh.toNat ∧
      ∀ j, j < 256 → r.getLsbD j = if j + sh.toNat ≤ 255 then v.getLsbD (j + sh.toNat) else false)) ∧
  BinaryRule 0x1D .sar (fun sh v r =>
    (256 ≤ sh.toNat → v.getLsbD 255 = false → r = 0) ∧
    (256 ≤ sh.toNat → v.getLsbD 255 = true → r = maxW) ∧
    (sh.toNat < 256 → r.toInt = v.toInt.fdiv (2 ^ sh.toNat) ∧
      ∀ j, j < 256 → r.getLsbD j = if j + sh.toNat ≤ 255 then v.getLsbD (j + sh.toNat) else v.getLsbD 255))

/-- 20_memory.md R62. -/
def Obligations.MemEnsureGrowsInUnitsOfZeros : Prop :=
  ∀ (c : Config) (off len : Nat) (m : Memory), m.wf = true →
    (off + len ≤ m.len → m.ensure c.memLimit off len = some m) ∧
    (m.len < off + len → c.memLimit < off + len → m.ensure c.memLimit off len = none) ∧
    (m.len < off + len → off + len ≤ c.memLimit → ∃ m', m.ensure c.memLimit off len = some m' ∧
      m'.len % 32 = 0 ∧ off + len ≤ m'.len ∧ m'.len < off + len + 32 ∧ m'.len ≤ c.memLimit ∧
      (∀ a, a < m.len → m'.byte? a = m.byte? a) ∧
      (∀ a, m.len ≤ a → a < m'.len → m'.byte? a = some 0) ∧ m'.wf = true)

/-- 44_memory_hash.md R260. -/
def Obligations.MloadReadsTheWordAtTheOffset : Prop :=
  HasOpcode 0x51 .mload ∧
  (∀ s off rest, s.mem.wf = true → s.depth ≤ 1024 → s.stack = off :: rest → Fits s off.toNat 32 →
    ∃ v m, exec .mload s = .next { goesOn (v :: rest) 1 s with mem := m } ∧
      GrownTo s off.toNat 32 (fun _ => False) m ∧
      ∀ i, i < 32 → m.byte? (off.toNat + i) = some (byteOf v i)) ∧
  (∀ s off rest, s.stack = off :: rest → TooFar s off.toNat 32 →
    exec .mload s = .next (failed .memoryLimitExceeded rest s)) ∧
  (∀ s, s.depth = 0 → exec .mload s = .next (failed .stackUnderflow s.stack s))

/-- 44_memory_hash.md R261. The address stored to is `u(offset)`, the reading of the first Word popped. That the offset is popped first is the spec's decision D4. -/
def Obligations.MstoreWritesThirtyTwoBytes : Prop :=
  HasOpcode 0x52 .mstore ∧
  (∀ s off v rest, s.mem.wf = true → s.stack = off :: v :: rest → Fits s off.toNat 32 →
    ∃ m, exec .mstore s = .next { goesOn rest 1 s with mem := m } ∧
      GrownTo s off.toNat 32 (fun a => off.toNat ≤ a ∧ a < off.toNat + 32) m ∧
      ∀ i, i < 32 → m.byte? (off.toNat + i) = some (byteOf v i)) ∧
  (∀ s off v rest, s.stack = off :: v :: rest → TooFar s off.toNat 32 →
    exec .mstore s = .next (failed .memoryLimitExceeded rest s)) ∧
  (∀ s, s.depth < 2 → exec .mstore s = .next (failed .stackUnderflow s.stack s))

/-- 44_memory_hash.md R262. The address stored to is `u(offset)`, the reading of the first Word popped. That the least significant byte is stored, and that the offset is popped first, are the spec's decisions D5 and D4. -/
def Obligations.Mstore8WritesTheLeastSignificantByte : Prop :=
  HasOpcode 0x53 .mstore8 ∧
  (∀ s off v rest, s.mem.wf = true → s.stack = off :: v :: rest → Fits s off.toNat 1 →
    ∃ m, exec .mstore8 s = .next { goesOn rest 1 s with mem := m } ∧
      GrownTo s off.toNat 1 (fun a => a = off.toNat) m ∧
      m.byte? off.toNat = some (BitVec.ofNat 8 (v.toNat % 256))) ∧
  (∀ s off v rest, s.stack = off :: v :: rest → TooFar s off.toNat 1 →
    exec .mstore8 s = .next (failed .memoryLimitExceeded rest s)) ∧
  (∀ s, s.depth < 2 → exec .mstore8 s = .next (failed .stackUnderflow s.stack s))

/-- 44_memory_hash.md R263. That the Word is MLEN modulo 2^256 where MLEN does not fit, which the spec does not speak of, is the model's choice (log 10); under the bound the Word reads MLEN. -/
def Obligations.MsizePushesTheLength : Prop :=
  PushRule 0x59 .msize (fun s => natWord s.mem.len) ∧ (∀ s : State, s.mem.wf = true → s.mem.len % 32 = 0) ∧
  ∀ s : State, s.Inv → s.cfg.memLimit < 2 ^ 256 → (natWord s.mem.len).toNat = s.mem.len

/-- 44_memory_hash.md R264. -/
def Obligations.KeccakPushesTheDigestOfTheWindow : Prop :=
  HasOpcode 0x20 .keccak256 ∧
  (∀ s off len rest, s.mem.wf = true → s.depth ≤ 1024 → s.stack = off :: len :: rest →
    Fits s off.toNat len.toNat →
    ∃ w m data, exec .keccak256 s = .next { goesOn (w :: rest) 1 s with mem := m } ∧
      GrownTo s off.toNat len.toNat (fun _ => False) m ∧
      data.length = len.toNat ∧ (∀ i, i < len.toNat → data[i]? = m.byte? (off.toNat + i)) ∧
      (Keccak.digest data).length = 32 ∧
      ∀ i, i < 32 → (Keccak.digest data)[i]? = some (byteOf w i)) ∧
  (∀ s off len rest, s.stack = off :: len :: rest → TooFar s off.toNat len.toNat →
    exec .keccak256 s = .next (failed .memoryLimitExceeded rest s)) ∧
  (∀ s, s.depth < 2 → exec .keccak256 s = .next (failed .stackUnderflow s.stack s))

/-- 44_memory_hash.md R267, R268, with the tables copied as the spec lays them out. The digest function is the spec's decision D3, from general knowledge. -/
def Obligations.KeccakRoundsFollowTheirTables : Prop :=
  (∀ (A : List Keccak.Lane) (x y : Nat), A.length = 25 → x < 5 → y < 5 →
    A[x + 5 * y]? = some (Keccak.lane A x y) ∧
    Keccak.lane (Keccak.theta A) x y =
      Keccak.lane A x y ^^^ (column A ((x + 4) % 5) ^^^ rol (column A ((x + 1) % 5)) 1) ∧
    Keccak.lane (Keccak.rhoPi A) y (2 * x + 3 * y) = rol (Keccak.lane A x y) (rot x y) ∧
    Keccak.lane (Keccak.chi A) x y =
      Keccak.lane A x y ^^^ (~~~(Keccak.lane A (x + 1) y) &&& Keccak.lane A (x + 2) y) ∧
    (∀ rc, Keccak.lane (Keccak.iota rc A) x y =
      if x = 0 ∧ y = 0 then Keccak.lane A 0 0 ^^^ rc else Keccak.lane A x y)) ∧
  (∀ A rc, A.length = 25 → (Keccak.round A rc).length = 25 ∧
    Keccak.round A rc = Keccak.iota rc (Keccak.chi (Keccak.rhoPi (Keccak.theta A)))) ∧
  (∀ A, Keccak.permute A = roundConstants.foldl Keccak.round A) ∧ roundConstants.length = 24

/-- 44_memory_hash.md R266, R269: padding, absorbing and squeezing. The digest function is the spec's decision D3, from general knowledge. -/
def Obligations.KeccakPaddingFillsTheLastBlock : Prop :=
  (∀ len : Nat,
    len + (Keccak.padding len).length = 136 * (len / 136 + 1) ∧
    (len % 136 = 135 → Keccak.padding len = [0x81]) ∧
    (len % 136 ≠ 135 → (Keccak.padding len).head? = some 0x01 ∧ (Keccak.padding len).getLast? = some 0x80 ∧
      ∀ j, 0 < j → j + 1 < (Keccak.padding len).length → (Keccak.padding len)[j]? = some 0)) ∧
  (∀ msg : List Byte, (Keccak.digest msg).length = 32 ∧ ∀ i, i < 32 →
    (Keccak.digest msg)[i]? = some (BitVec.ofNat 8
      (((sponge (msg ++ Keccak.padding msg.length) (msg.length / 136 + 1)).getD (i / 8) 0).toNat / 256 ^ (i % 8))))

/-- 44_memory_hash.md R260, R261, 20_memory.md R69, R74. -/
def Obligations.MstoreThenMloadReturnsTheWord : Prop :=
  ∀ (s : State) (off v : Word) (rest : List Word), s.mem.wf = true → s.depth ≤ 1024 →
    s.stack = off :: v :: rest → Fits s off.toNat 32 →
    ∃ t, exec .mstore s = .next t ∧
      exec .mload { t with stack := off :: rest } = .next (goesOn (v :: rest) 1 t)

/-- 20_memory.md R69, mixed widths. -/
def Obligations.Mstore8ThenMloadPlacesTheByte : Prop :=
  ∀ (s : State) (a b v : Word) (rest : List Word), s.mem.wf = true → s.depth ≤ 1024 →
    s.stack = a :: v :: rest → b.toNat ≤ a.toNat → a.toNat ≤ b.toNat + 31 →
    Fits s a.toNat 1 → Fits s b.toNat 32 →
    ∃ t u w, exec .mstore8 s = .next t ∧ exec .mload { t with stack := b :: rest } = .next u ∧
      u.stack = w :: rest ∧ byteOf w (a.toNat - b.toNat) = BitVec.ofNat 8 (v.toNat % 256)

/-- 45_control_flow.md R280. -/
def Obligations.JumpdestDoesNothingElse : Prop :=
  HasOpcode 0x5B .jumpdest ∧ (∀ s : State, exec .jumpdest s = .next (goesOn s.stack 1 s)) ∧
  ∀ (code : List Byte) (i : Nat), i ∈ opcodeOffsets code → code[i]? = some 0x5B → i ∈ validDestinations code

/-- 45_control_flow.md R281; that the target stays popped when the jump fails is the choice of 90_conflicts.md C6. -/
def Obligations.JumpGoesToAValidTargetOrFails : Prop :=
  HasOpcode 0x56 .jump ∧
  (∀ s t rest, s.valid = validDestinations s.code → s.stack = t :: rest →
    (ValidDestination s.code t → exec .jump s = .next { s with stack := rest, pc := t.toNat }) ∧
    (¬ ValidDestination s.code t → exec .jump s = .next (failed .invalidJumpDestination rest s))) ∧
  (∀ s, s.depth = 0 → exec .jump s = .next (failed .stackUnderflow s.stack s))

/-- 45_control_flow.md R282; that the operands stay popped when the jump fails is the choice of 90_conflicts.md C6. -/
def Obligations.JumpiJumpsOnANonzeroCondition : Prop :=
  HasOpcode 0x57 .jumpi ∧
  (∀ s t c rest, s.valid = validDestinations s.code → s.stack = t :: c :: rest →
    (c = 0 → exec .jumpi s = .next (goesOn rest 1 s)) ∧
    (c ≠ 0 → ValidDestination s.code t → exec .jumpi s = .next { s with stack := rest, pc := t.toNat }) ∧
    (c ≠ 0 → ¬ ValidDestination s.code t → exec .jumpi s = .next (failed .invalidJumpDestination rest s))) ∧
  (∀ s, s.depth < 2 → exec .jumpi s = .next (failed .stackUnderflow s.stack s))

/-- 45_control_flow.md R283. That the Word is pc modulo 2^256 where pc does not fit is the model's choice (log 10); under the bound the Word reads pc. -/
def Obligations.PcPushesItsOwnOffset : Prop :=
  PushRule 0x58 .pc (fun s => natWord s.pc) ∧
  ∀ s : State, s.Inv → s.pc < s.code.length → s.cfg.codeMax < 2 ^ 256 → (natWord s.pc).toNat = s.pc

/-- 45_control_flow.md R284, R285. -/
def Obligations.StopHaltsAndInvalidFails : Prop :=
  HasOpcode 0x00 .stop ∧ HasOpcode 0xFE .invalid ∧
  ∀ s : State, exec .stop s = .next (halted s) ∧
    (halted s).result = some { stack := s.stack, success := true } ∧
    exec .invalid s = .next (failed .explicitFault s.stack s) ∧
    (failed .explicitFault s.stack s).result = some { stack := s.stack, success := false }

/-- 45_control_flow.md R286, instruction by instruction. -/
def Obligations.UnassignedOpcodesHaltWithSuccess : Prop :=
  ∀ i ∈ unassignedInstrs, ∀ s : State, exec i s = .next (halted s) ∧ exec i s = exec .stop s

/-- 30_encoding.md R96, 45_control_flow.md R286. -/
def Obligations.UnassignedBytesAreTheListed143 : Prop :=
  (∀ (op : Byte) (rest : List Byte),
    (∃ i ∈ unassignedInstrs, decode (op :: rest) = .ok i) ↔ unassignedByte op.toNat = true) ∧
  ((List.range 256).filter unassignedByte).length = 143 ∧ unassignedInstrs.length = 143 ∧
  (∀ (s : State) (op : Byte) (rest : List Byte), s.status = .running → s.code.drop s.pc = op :: rest →
    unassignedByte op.toNat = true →
    step s = .next (halted s) ∧ (halted s).result = some { stack := s.stack, success := true }) ∧
  (∀ op : Byte, unassignedByte op.toNat = true → opLen op = 1)

/-- 46_context_gas.md R300 to R311. That ADDRESS reads `to` and CALLER `from` is the spec's decision D6, and that the bank is tested before the push is its decision D14. -/
def Obligations.ContextInstructionsReadTheirRegister : Prop :=
  ContextRule 0x30 .address (·.tx.present) (·.tx.recipient) ∧
  ContextRule 0x32 .origin (·.tx.present) (·.tx.origin) ∧
  ContextRule 0x33 .caller (·.tx.present) (·.tx.sender) ∧
  ContextRule 0x3A .gasprice (·.tx.present) (·.tx.gasPrice) ∧
  ContextRule 0x41 .coinbase (·.blk.present) (·.blk.coinBase) ∧
  ContextRule 0x42 .timestamp (·.blk.present) (·.blk.timestamp) ∧
  ContextRule 0x43 .number (·.blk.present) (·.blk.number) ∧
  ContextRule 0x44 .difficulty (·.blk.present) (·.blk.difficulty) ∧
  ContextRule 0x45 .gaslimit (·.blk.present) (·.blk.gasLimit) ∧
  ContextRule 0x46 .chainid (·.blk.present) (·.blk.chainId) ∧
  ContextRule 0x48 .basefee (·.blk.present) (·.blk.baseFee)

/-- 46_context_gas.md R312. -/
def Obligations.GasPushesTheMaximumWord : Prop :=
  PushRule 0x5A .gas (fun _ => BitVec.allOnes 256) ∧ (BitVec.allOnes 256).toNat = 2 ^ 256 - 1

/-- 30_encoding.md R97, 60_exceptions.md R329: every byte value has a behaviour, and a failure is taken. -/
def Obligations.ExecAlwaysAnswersANextState : Prop :=
  ∀ (i : Instr) (s : State), ∃ t, exec i s = .next t

/-- 60_exceptions.md R329. -/
def Obligations.FailuresFreezeTheState : Prop :=
  ∀ (i : Instr) (s t : State), s.Inv → s.status = .running → exec i s = .next t → t.status = .failed →
    (∀ u, step t ≠ .next u) ∧
    ∃ k st, t = failed k st s ∧
      (k ∈ [FailureKind.stackUnderflow, .stackOverflow, .missingExecutionContext, .explicitFault] → st = s.stack) ∧
      (k ∈ [FailureKind.invalidJumpDestination, .memoryLimitExceeded] → st = s.stack.drop (needs i))

/-- 60_exceptions.md R331 with the priority of R328. The table is the spec's own derivation, and the order of the checks its decision D14. -/
def Obligations.FailuresAreExactlyTheTable : Prop :=
  ∀ (i : Instr) (s : State) (k : FailureKind), s.Inv → s.status = .running →
    ((∃ t, exec i s = .next t ∧ t.status = .failed ∧ t.fault = some k) ↔ failsWith i s k)

/-- 40_program_and_loop.md R128, 45_control_flow.md R287. That pc is unchanged when the instruction ends the run is 10_state.md R25 (the spec's decision D17), with 40_program_and_loop.md R122, 45_control_flow.md R284 and 60_exceptions.md R329. -/
def Obligations.OnlyJumpsTransferControl : Prop :=
  ∀ (i : Instr) (s t : State), s.depth ≤ 1024 → s.status = .running → exec i s = .next t →
    (t.status ≠ .running → t.pc = s.pc) ∧
    (t.status = .running → i ≠ .jump → i ≠ .jumpi → t.pc = s.pc + i.length) ∧
    (t.status = .running → t.pc = s.pc + i.length ∨ t.pc ∈ s.valid)

/-- 30_encoding.md R94, 41_stack_ops.md R209, 44_memory_hash.md R270, 45_control_flow.md R288. -/
def Obligations.DepthChangesByPopsAndPushes : Prop :=
  ∀ (i : Instr) (s t : State), s.depth ≤ 1024 → exec i s = .next t → t.status ≠ .failed →
    t.depth + pops i = s.depth + pushes i

/-- The memory frame: 20_memory.md R71, 10_state.md R29 and the laws of the families. -/
def Obligations.FormsThatStoreNothingKeepEveryByte : Prop :=
  ∀ (i : Instr) (s t : State), s.mem.wf = true → exec i s = .next t →
    (i ≠ .mstore → i ≠ .mstore8 → ∀ a,
      (a < s.mem.len → t.mem.byte? a = s.mem.byte? a) ∧
      (s.mem.len ≤ a → a < t.mem.len → t.mem.byte? a = some 0)) ∧
    (i ∉ [Instr.mload, .mstore, .mstore8, .keccak256] → t.mem = s.mem) ∧
    s.mem.len ≤ t.mem.len

/-- 10_state.md R21, R27, R30, R31, R33: the frame of the fixed state. -/
def Obligations.NoInstructionWritesWhatTheHostLoaded : Prop :=
  ∀ s t : State, step s = .next t →
    t.code = s.code ∧ t.valid = s.valid ∧ t.tx = s.tx ∧ t.blk = s.blk ∧ t.cfg = s.cfg ∧
    (t.status ≠ .failed → t.fault = s.fault)

/-- 60_exceptions.md R324: "A program that executes no context instruction runs the same with or without a context." -/
def Obligations.OnlyContextInstructionsReadTheContext : Prop :=
  ∀ (i : Instr) (s t : State) (tx : TxBank) (blk : BlkBank), ¬ readsTx i → ¬ readsBlk i → exec i s = .next t →
    exec i { s with tx := tx, blk := blk } = .next { t with tx := tx, blk := blk }

/-- 10_state.md R27: "no claim about an ExecutionResult may depend on it". -/
def Obligations.FaultRegisterInfluencesNothing : Prop :=
  ∀ (s t : State) (f : Option FailureKind), step s = .next t →
    ∃ g, step { s with fault := f } = .next { t with fault := g }

/-- 70_reset_and_hazards.md R350, R352, 10_state.md R34. That the host operations are functions on what is loaded, and that a State gives it back only when the run is over, is the model's reading of R352 (log 12). -/
def Obligations.HostLoadsBetweenRunsOnly : Prop :=
  (∀ (l : Loaded) (bytes : List Byte),
    (bytes.length ≤ l.cfg.codeMax → l.loadCode bytes = { l with code := bytes }) ∧
    (l.cfg.codeMax < bytes.length → l.loadCode bytes = l)) ∧
  (∀ (l : Loaded) (t : TxArgs), (l.loadTx (some t)).tx.present = true ∧
    HoldsField (l.loadTx (some t)).tx.recipient t.recipient ∧
    HoldsField (l.loadTx (some t)).tx.sender t.sender ∧
    HoldsField (l.loadTx (some t)).tx.origin t.origin ∧
    HoldsField (l.loadTx (some t)).tx.gasPrice t.gasPrice) ∧
  (∀ (l : Loaded) (b : BlkArgs), (l.loadBlock (some b)).blk.present = true ∧
    HoldsField (l.loadBlock (some b)).blk.baseFee b.baseFee ∧
    HoldsField (l.loadBlock (some b)).blk.coinBase b.coinBase ∧
    HoldsField (l.loadBlock (some b)).blk.timestamp b.timestamp ∧
    HoldsField (l.loadBlock (some b)).blk.number b.number ∧
    HoldsField (l.loadBlock (some b)).blk.difficulty b.difficulty ∧
    HoldsField (l.loadBlock (some b)).blk.gasLimit b.gasLimit ∧
    HoldsField (l.loadBlock (some b)).blk.chainId b.chainId) ∧
  (∀ (l : Loaded), (l.loadTx none).tx.present = false ∧ (l.loadBlock none).blk.present = false) ∧
  (∀ (l : Loaded) (t : Option TxArgs),
    (l.loadTx t).code = l.code ∧ (l.loadTx t).blk = l.blk ∧ (l.loadTx t).cfg = l.cfg) ∧
  (∀ (l : Loaded) (b : Option BlkArgs),
    (l.loadBlock b).code = l.code ∧ (l.loadBlock b).tx = l.tx ∧ (l.loadBlock b).cfg = l.cfg) ∧
  (∀ (l : Loaded) (t : TxArgs) (v g : Option Word) (d : Option (List Byte)),
    l.loadTx (some { t with value := v, data := d, gas := g }) = l.loadTx (some t)) ∧
  (∀ s : State, s.status = .running → s.betweenRuns = none) ∧
  (∀ s : State, s.status ≠ .running →
    s.betweenRuns = some { code := s.code, tx := s.tx, blk := s.blk, cfg := s.cfg })

/-- 10_state.md R26. -/
def Obligations.ResultIsTheStackAndSuccess : Prop :=
  (∀ s : State, s.result = none ↔ s.status = .running) ∧
  (∀ s : State, s.status = .halted → s.result = some { stack := s.stack, success := true }) ∧
  (∀ s : State, s.status = .failed → s.result = some { stack := s.stack, success := false }) ∧
  (∀ (s : State) (k : Nat), 1 ≤ k → k ≤ s.depth → s.stack[k - 1]? = s.entry k ∧ s.entry k ≠ none) ∧
  (∀ (s : State) (k : Nat), k < 1 ∨ s.depth < k → s.entry k = none) ∧
  (∀ l : Loaded, (start l).status = .running) ∧
  (∀ s t : State, step s = .next t → s.status = .running)

/-- 60_exceptions.md R320 (the codes are the spec's decision D9), 70_reset_and_hazards.md R352 and 10_state.md R25, R27. That the diagnostics are absent, and not meaningless, while a run is in progress is the model's form (log 12). -/
def Obligations.DiagnosticsAreTheFaultCodeAndThePc : Prop :=
  (∀ s : State,
    (s.fault = none → s.faultCode = 0) ∧
    (s.fault = some .stackUnderflow → s.faultCode = 1) ∧
    (s.fault = some .stackOverflow → s.faultCode = 2) ∧
    (s.fault = some .invalidJumpDestination → s.faultCode = 3) ∧
    (s.fault = some .missingExecutionContext → s.faultCode = 4) ∧
    (s.fault = some .explicitFault → s.faultCode = 5) ∧
    (s.fault = some .memoryLimitExceeded → s.faultCode = 6)) ∧
  (∀ s : State, s.status = .running → s.diag = none) ∧
  (∀ s : State, s.status ≠ .running → s.diag = some { fault := s.faultCode, pc := s.pc }) ∧
  (∀ (s t : State) (k : FailureKind), step s = .next t → t.status = .failed → t.fault = some k →
    t.diag = some { fault := k.code, pc := s.pc })
end

