-- ==== Sys2Proof/Laws/PerInstr.lean ====
section
/-! SUPPORT. Laws made per instruction (LAWS.json): the shape of every instruction's encoding. -/

/-- An instruction's encoding is its opcode byte followed by as many immediate bytes as that byte says
(30_encoding.md R90, R91), so its length is `len(op)`. -/
def Sys2Proof.Laws.EncodeShape.Statement (i : Sys2Proof.Instr) : Prop :=
  ∃ op rest, Sys2Proof.encode i = op :: rest ∧ i.length = Sys2Proof.opLen op

theorem Sys2Proof.Laws.natToBytes_length (n v : Nat) : (Sys2Proof.natToBytes n v).length = n := by
  induction n with
  | zero => rfl
  | succ n ih => simp [Sys2Proof.natToBytes, ih]

theorem Sys2Proof.Laws.EncodeShape.of_push {i : Sys2Proof.Instr} {op : Sys2Proof.Byte} {n v : Nat}
    (h : Sys2Proof.encode i = op :: Sys2Proof.natToBytes n v) (hn : Sys2Proof.immLen op = n) :
    Sys2Proof.Laws.EncodeShape.Statement i :=
  ⟨op, _, h, by simp [Sys2Proof.Instr.length, h, Sys2Proof.opLen, hn, Sys2Proof.Laws.natToBytes_length, Nat.add_comm]⟩

theorem Sys2Proof.Laws.EncodeShape.stop : Sys2Proof.Laws.EncodeShape.Statement .stop := ⟨_, _, rfl, rfl⟩
theorem Sys2Proof.Laws.EncodeShape.add : Sys2Proof.Laws.EncodeShape.Statement .add := ⟨_, _, rfl, rfl⟩
theorem Sys2Proof.Laws.EncodeShape.mul : Sys2Proof.Laws.EncodeShape.Statement .mul := ⟨_, _, rfl, rfl⟩
theorem Sys2Proof.Laws.EncodeShape.sub : Sys2Proof.Laws.EncodeShape.Statement .sub := ⟨_, _, rfl, rfl⟩
theorem Sys2Proof.Laws.EncodeShape.div : Sys2Proof.Laws.EncodeShape.Statement .div := ⟨_, _, rfl, rfl⟩
theorem Sys2Proof.Laws.EncodeShape.sdiv : Sys2Proof.Laws.EncodeShape.Statement .sdiv := ⟨_, _, rfl, rfl⟩
theorem Sys2Proof.Laws.EncodeShape.mod : Sys2Proof.Laws.EncodeShape.Statement .mod := ⟨_, _, rfl, rfl⟩
theorem Sys2Proof.Laws.EncodeShape.smod : Sys2Proof.Laws.EncodeShape.Statement .smod := ⟨_, _, rfl, rfl⟩
theorem Sys2Proof.Laws.EncodeShape.addmod : Sys2Proof.Laws.EncodeShape.Statement .addmod := ⟨_, _, rfl, rfl⟩
theorem Sys2Proof.Laws.EncodeShape.mulmod : Sys2Proof.Laws.EncodeShape.Statement .mulmod := ⟨_, _, rfl, rfl⟩
theorem Sys2Proof.Laws.EncodeShape.exp : Sys2Proof.Laws.EncodeShape.Statement .exp := ⟨_, _, rfl, rfl⟩
theorem Sys2Proof.Laws.EncodeShape.signextend : Sys2Proof.Laws.EncodeShape.Statement .signextend := ⟨_, _, rfl, rfl⟩
theorem Sys2Proof.Laws.EncodeShape.unassigned0C : Sys2Proof.Laws.EncodeShape.Statement .unassigned0C := ⟨_, _, rfl, rfl⟩
theorem Sys2Proof.Laws.EncodeShape.unassigned0D : Sys2Proof.Laws.EncodeShape.Statement .unassigned0D := ⟨_, _, rfl, rfl⟩
theorem Sys2Proof.Laws.EncodeShape.unassigned0E : Sys2Proof.Laws.EncodeShape.Statement .unassigned0E := ⟨_, _, rfl, rfl⟩
theorem Sys2Proof.Laws.EncodeShape.unassigned0F : Sys2Proof.Laws.EncodeShape.Statement .unassigned0F := ⟨_, _, rfl, rfl⟩
theorem Sys2Proof.Laws.EncodeShape.lt : Sys2Proof.Laws.EncodeShape.Statement .lt := ⟨_, _, rfl, rfl⟩
theorem Sys2Proof.Laws.EncodeShape.gt : Sys2Proof.Laws.EncodeShape.Statement .gt := ⟨_, _, rfl, rfl⟩
theorem Sys2Proof.Laws.EncodeShape.slt : Sys2Proof.Laws.EncodeShape.Statement .slt := ⟨_, _, rfl, rfl⟩
theorem Sys2Proof.Laws.EncodeShape.sgt : Sys2Proof.Laws.EncodeShape.Statement .sgt := ⟨_, _, rfl, rfl⟩
theorem Sys2Proof.Laws.EncodeShape.eq : Sys2Proof.Laws.EncodeShape.Statement .eq := ⟨_, _, rfl, rfl⟩
theorem Sys2Proof.Laws.EncodeShape.iszero : Sys2Proof.Laws.EncodeShape.Statement .iszero := ⟨_, _, rfl, rfl⟩
theorem Sys2Proof.Laws.EncodeShape.and : Sys2Proof.Laws.EncodeShape.Statement .and := ⟨_, _, rfl, rfl⟩
theorem Sys2Proof.Laws.EncodeShape.or : Sys2Proof.Laws.EncodeShape.Statement .or := ⟨_, _, rfl, rfl⟩
theorem Sys2Proof.Laws.EncodeShape.xor : Sys2Proof.Laws.EncodeShape.Statement .xor := ⟨_, _, rfl, rfl⟩
theorem Sys2Proof.Laws.EncodeShape.not : Sys2Proof.Laws.EncodeShape.Statement .not := ⟨_, _, rfl, rfl⟩
theorem Sys2Proof.Laws.EncodeShape.byte : Sys2Proof.Laws.EncodeShape.Statement .byte := ⟨_, _, rfl, rfl⟩
theorem Sys2Proof.Laws.EncodeShape.shl : Sys2Proof.Laws.EncodeShape.Statement .shl := ⟨_, _, rfl, rfl⟩
theorem Sys2Proof.Laws.EncodeShape.shr : Sys2Proof.Laws.EncodeShape.Statement .shr := ⟨_, _, rfl, rfl⟩
theorem Sys2Proof.Laws.EncodeShape.sar : Sys2Proof.Laws.EncodeShape.Statement .sar := ⟨_, _, rfl, rfl⟩
theorem Sys2Proof.Laws.EncodeShape.unassigned1E : Sys2Proof.Laws.EncodeShape.Statement .unassigned1E := ⟨_, _, rfl, rfl⟩
theorem Sys2Proof.Laws.EncodeShape.unassigned1F : Sys2Proof.Laws.EncodeShape.Statement .unassigned1F := ⟨_, _, rfl, rfl⟩
theorem Sys2Proof.Laws.EncodeShape.keccak256 : Sys2Proof.Laws.EncodeShape.Statement .keccak256 := ⟨_, _, rfl, rfl⟩
theorem Sys2Proof.Laws.EncodeShape.unassigned21 : Sys2Proof.Laws.EncodeShape.Statement .unassigned21 := ⟨_, _, rfl, rfl⟩
theorem Sys2Proof.Laws.EncodeShape.unassigned22 : Sys2Proof.Laws.EncodeShape.Statement .unassigned22 := ⟨_, _, rfl, rfl⟩
theorem Sys2Proof.Laws.EncodeShape.unassigned23 : Sys2Proof.Laws.EncodeShape.Statement .unassigned23 := ⟨_, _, rfl, rfl⟩
theorem Sys2Proof.Laws.EncodeShape.unassigned24 : Sys2Proof.Laws.EncodeShape.Statement .unassigned24 := ⟨_, _, rfl, rfl⟩
theorem Sys2Proof.Laws.EncodeShape.unassigned25 : Sys2Proof.Laws.EncodeShape.Statement .unassigned25 := ⟨_, _, rfl, rfl⟩
theorem Sys2Proof.Laws.EncodeShape.unassigned26 : Sys2Proof.Laws.EncodeShape.Statement .unassigned26 := ⟨_, _, rfl, rfl⟩
theorem Sys2Proof.Laws.EncodeShape.unassigned27 : Sys2Proof.Laws.EncodeShape.Statement .unassigned27 := ⟨_, _, rfl, rfl⟩
theorem Sys2Proof.Laws.EncodeShape.unassigned28 : Sys2Proof.Laws.EncodeShape.Statement .unassigned28 := ⟨_, _, rfl, rfl⟩
theorem Sys2Proof.Laws.EncodeShape.unassigned29 : Sys2Proof.Laws.EncodeShape.Statement .unassigned29 := ⟨_, _, rfl, rfl⟩
theorem Sys2Proof.Laws.EncodeShape.unassigned2A : Sys2Proof.Laws.EncodeShape.Statement .unassigned2A := ⟨_, _, rfl, rfl⟩
theorem Sys2Proof.Laws.EncodeShape.unassigned2B : Sys2Proof.Laws.EncodeShape.Statement .unassigned2B := ⟨_, _, rfl, rfl⟩
theorem Sys2Proof.Laws.EncodeShape.unassigned2C : Sys2Proof.Laws.EncodeShape.Statement .unassigned2C := ⟨_, _, rfl, rfl⟩
theorem Sys2Proof.Laws.EncodeShape.unassigned2D : Sys2Proof.Laws.EncodeShape.Statement .unassigned2D := ⟨_, _, rfl, rfl⟩
theorem Sys2Proof.Laws.EncodeShape.unassigned2E : Sys2Proof.Laws.EncodeShape.Statement .unassigned2E := ⟨_, _, rfl, rfl⟩
theorem Sys2Proof.Laws.EncodeShape.unassigned2F : Sys2Proof.Laws.EncodeShape.Statement .unassigned2F := ⟨_, _, rfl, rfl⟩
theorem Sys2Proof.Laws.EncodeShape.address : Sys2Proof.Laws.EncodeShape.Statement .address := ⟨_, _, rfl, rfl⟩
theorem Sys2Proof.Laws.EncodeShape.unassigned31 : Sys2Proof.Laws.EncodeShape.Statement .unassigned31 := ⟨_, _, rfl, rfl⟩
theorem Sys2Proof.Laws.EncodeShape.origin : Sys2Proof.Laws.EncodeShape.Statement .origin := ⟨_, _, rfl, rfl⟩
theorem Sys2Proof.Laws.EncodeShape.caller : Sys2Proof.Laws.EncodeShape.Statement .caller := ⟨_, _, rfl, rfl⟩
theorem Sys2Proof.Laws.EncodeShape.unassigned34 : Sys2Proof.Laws.EncodeShape.Statement .unassigned34 := ⟨_, _, rfl, rfl⟩
theorem Sys2Proof.Laws.EncodeShape.unassigned35 : Sys2Proof.Laws.EncodeShape.Statement .unassigned35 := ⟨_, _, rfl, rfl⟩
theorem Sys2Proof.Laws.EncodeShape.unassigned36 : Sys2Proof.Laws.EncodeShape.Statement .unassigned36 := ⟨_, _, rfl, rfl⟩
theorem Sys2Proof.Laws.EncodeShape.unassigned37 : Sys2Proof.Laws.EncodeShape.Statement .unassigned37 := ⟨_, _, rfl, rfl⟩
theorem Sys2Proof.Laws.EncodeShape.unassigned38 : Sys2Proof.Laws.EncodeShape.Statement .unassigned38 := ⟨_, _, rfl, rfl⟩
theorem Sys2Proof.Laws.EncodeShape.unassigned39 : Sys2Proof.Laws.EncodeShape.Statement .unassigned39 := ⟨_, _, rfl, rfl⟩
theorem Sys2Proof.Laws.EncodeShape.gasprice : Sys2Proof.Laws.EncodeShape.Statement .gasprice := ⟨_, _, rfl, rfl⟩
theorem Sys2Proof.Laws.EncodeShape.unassigned3B : Sys2Proof.Laws.EncodeShape.Statement .unassigned3B := ⟨_, _, rfl, rfl⟩
theorem Sys2Proof.Laws.EncodeShape.unassigned3C : Sys2Proof.Laws.EncodeShape.Statement .unassigned3C := ⟨_, _, rfl, rfl⟩
theorem Sys2Proof.Laws.EncodeShape.unassigned3D : Sys2Proof.Laws.EncodeShape.Statement .unassigned3D := ⟨_, _, rfl, rfl⟩
theorem Sys2Proof.Laws.EncodeShape.unassigned3E : Sys2Proof.Laws.EncodeShape.Statement .unassigned3E := ⟨_, _, rfl, rfl⟩
theorem Sys2Proof.Laws.EncodeShape.unassigned3F : Sys2Proof.Laws.EncodeShape.Statement .unassigned3F := ⟨_, _, rfl, rfl⟩
theorem Sys2Proof.Laws.EncodeShape.unassigned40 : Sys2Proof.Laws.EncodeShape.Statement .unassigned40 := ⟨_, _, rfl, rfl⟩
theorem Sys2Proof.Laws.EncodeShape.coinbase : Sys2Proof.Laws.EncodeShape.Statement .coinbase := ⟨_, _, rfl, rfl⟩
theorem Sys2Proof.Laws.EncodeShape.timestamp : Sys2Proof.Laws.EncodeShape.Statement .timestamp := ⟨_, _, rfl, rfl⟩
theorem Sys2Proof.Laws.EncodeShape.number : Sys2Proof.Laws.EncodeShape.Statement .number := ⟨_, _, rfl, rfl⟩
theorem Sys2Proof.Laws.EncodeShape.difficulty : Sys2Proof.Laws.EncodeShape.Statement .difficulty := ⟨_, _, rfl, rfl⟩
theorem Sys2Proof.Laws.EncodeShape.gaslimit : Sys2Proof.Laws.EncodeShape.Statement .gaslimit := ⟨_, _, rfl, rfl⟩
theorem Sys2Proof.Laws.EncodeShape.chainid : Sys2Proof.Laws.EncodeShape.Statement .chainid := ⟨_, _, rfl, rfl⟩
theorem Sys2Proof.Laws.EncodeShape.unassigned47 : Sys2Proof.Laws.EncodeShape.Statement .unassigned47 := ⟨_, _, rfl, rfl⟩
theorem Sys2Proof.Laws.EncodeShape.basefee : Sys2Proof.Laws.EncodeShape.Statement .basefee := ⟨_, _, rfl, rfl⟩
theorem Sys2Proof.Laws.EncodeShape.unassigned49 : Sys2Proof.Laws.EncodeShape.Statement .unassigned49 := ⟨_, _, rfl, rfl⟩
theorem Sys2Proof.Laws.EncodeShape.unassigned4A : Sys2Proof.Laws.EncodeShape.Statement .unassigned4A := ⟨_, _, rfl, rfl⟩
theorem Sys2Proof.Laws.EncodeShape.unassigned4B : Sys2Proof.Laws.EncodeShape.Statement .unassigned4B := ⟨_, _, rfl, rfl⟩
theorem Sys2Proof.Laws.EncodeShape.unassigned4C : Sys2Proof.Laws.EncodeShape.Statement .unassigned4C := ⟨_, _, rfl, rfl⟩
theorem Sys2Proof.Laws.EncodeShape.unassigned4D : Sys2Proof.Laws.EncodeShape.Statement .unassigned4D := ⟨_, _, rfl, rfl⟩
theorem Sys2Proof.Laws.EncodeShape.unassigned4E : Sys2Proof.Laws.EncodeShape.Statement .unassigned4E := ⟨_, _, rfl, rfl⟩
theorem Sys2Proof.Laws.EncodeShape.unassigned4F : Sys2Proof.Laws.EncodeShape.Statement .unassigned4F := ⟨_, _, rfl, rfl⟩
theorem Sys2Proof.Laws.EncodeShape.pop : Sys2Proof.Laws.EncodeShape.Statement .pop := ⟨_, _, rfl, rfl⟩
theorem Sys2Proof.Laws.EncodeShape.mload : Sys2Proof.Laws.EncodeShape.Statement .mload := ⟨_, _, rfl, rfl⟩
theorem Sys2Proof.Laws.EncodeShape.mstore : Sys2Proof.Laws.EncodeShape.Statement .mstore := ⟨_, _, rfl, rfl⟩
theorem Sys2Proof.Laws.EncodeShape.mstore8 : Sys2Proof.Laws.EncodeShape.Statement .mstore8 := ⟨_, _, rfl, rfl⟩
theorem Sys2Proof.Laws.EncodeShape.unassigned54 : Sys2Proof.Laws.EncodeShape.Statement .unassigned54 := ⟨_, _, rfl, rfl⟩
theorem Sys2Proof.Laws.EncodeShape.unassigned55 : Sys2Proof.Laws.EncodeShape.Statement .unassigned55 := ⟨_, _, rfl, rfl⟩
theorem Sys2Proof.Laws.EncodeShape.jump : Sys2Proof.Laws.EncodeShape.Statement .jump := ⟨_, _, rfl, rfl⟩
theorem Sys2Proof.Laws.EncodeShape.jumpi : Sys2Proof.Laws.EncodeShape.Statement .jumpi := ⟨_, _, rfl, rfl⟩
theorem Sys2Proof.Laws.EncodeShape.pc : Sys2Proof.Laws.EncodeShape.Statement .pc := ⟨_, _, rfl, rfl⟩
theorem Sys2Proof.Laws.EncodeShape.msize : Sys2Proof.Laws.EncodeShape.Statement .msize := ⟨_, _, rfl, rfl⟩
theorem Sys2Proof.Laws.EncodeShape.gas : Sys2Proof.Laws.EncodeShape.Statement .gas := ⟨_, _, rfl, rfl⟩
theorem Sys2Proof.Laws.EncodeShape.jumpdest : Sys2Proof.Laws.EncodeShape.Statement .jumpdest := ⟨_, _, rfl, rfl⟩
theorem Sys2Proof.Laws.EncodeShape.unassigned5C : Sys2Proof.Laws.EncodeShape.Statement .unassigned5C := ⟨_, _, rfl, rfl⟩
theorem Sys2Proof.Laws.EncodeShape.unassigned5D : Sys2Proof.Laws.EncodeShape.Statement .unassigned5D := ⟨_, _, rfl, rfl⟩
theorem Sys2Proof.Laws.EncodeShape.unassigned5E : Sys2Proof.Laws.EncodeShape.Statement .unassigned5E := ⟨_, _, rfl, rfl⟩
theorem Sys2Proof.Laws.EncodeShape.unassigned5F : Sys2Proof.Laws.EncodeShape.Statement .unassigned5F := ⟨_, _, rfl, rfl⟩
theorem Sys2Proof.Laws.EncodeShape.push1 (imm : Sys2Proof.Word) : Sys2Proof.Laws.EncodeShape.Statement (.push1 imm) := Sys2Proof.Laws.EncodeShape.of_push rfl rfl
theorem Sys2Proof.Laws.EncodeShape.push2 (imm : Sys2Proof.Word) : Sys2Proof.Laws.EncodeShape.Statement (.push2 imm) := Sys2Proof.Laws.EncodeShape.of_push rfl rfl
theorem Sys2Proof.Laws.EncodeShape.push3 (imm : Sys2Proof.Word) : Sys2Proof.Laws.EncodeShape.Statement (.push3 imm) := Sys2Proof.Laws.EncodeShape.of_push rfl rfl
theorem Sys2Proof.Laws.EncodeShape.push4 (imm : Sys2Proof.Word) : Sys2Proof.Laws.EncodeShape.Statement (.push4 imm) := Sys2Proof.Laws.EncodeShape.of_push rfl rfl
theorem Sys2Proof.Laws.EncodeShape.push5 (imm : Sys2Proof.Word) : Sys2Proof.Laws.EncodeShape.Statement (.push5 imm) := Sys2Proof.Laws.EncodeShape.of_push rfl rfl
theorem Sys2Proof.Laws.EncodeShape.push6 (imm : Sys2Proof.Word) : Sys2Proof.Laws.EncodeShape.Statement (.push6 imm) := Sys2Proof.Laws.EncodeShape.of_push rfl rfl
theorem Sys2Proof.Laws.EncodeShape.push7 (imm : Sys2Proof.Word) : Sys2Proof.Laws.EncodeShape.Statement (.push7 imm) := Sys2Proof.Laws.EncodeShape.of_push rfl rfl
theorem Sys2Proof.Laws.EncodeShape.push8 (imm : Sys2Proof.Word) : Sys2Proof.Laws.EncodeShape.Statement (.push8 imm) := Sys2Proof.Laws.EncodeShape.of_push rfl rfl
theorem Sys2Proof.Laws.EncodeShape.push9 (imm : Sys2Proof.Word) : Sys2Proof.Laws.EncodeShape.Statement (.push9 imm) := Sys2Proof.Laws.EncodeShape.of_push rfl rfl
theorem Sys2Proof.Laws.EncodeShape.push10 (imm : Sys2Proof.Word) : Sys2Proof.Laws.EncodeShape.Statement (.push10 imm) := Sys2Proof.Laws.EncodeShape.of_push rfl rfl
theorem Sys2Proof.Laws.EncodeShape.push11 (imm : Sys2Proof.Word) : Sys2Proof.Laws.EncodeShape.Statement (.push11 imm) := Sys2Proof.Laws.EncodeShape.of_push rfl rfl
theorem Sys2Proof.Laws.EncodeShape.push12 (imm : Sys2Proof.Word) : Sys2Proof.Laws.EncodeShape.Statement (.push12 imm) := Sys2Proof.Laws.EncodeShape.of_push rfl rfl
theorem Sys2Proof.Laws.EncodeShape.push13 (imm : Sys2Proof.Word) : Sys2Proof.Laws.EncodeShape.Statement (.push13 imm) := Sys2Proof.Laws.EncodeShape.of_push rfl rfl
theorem Sys2Proof.Laws.EncodeShape.push14 (imm : Sys2Proof.Word) : Sys2Proof.Laws.EncodeShape.Statement (.push14 imm) := Sys2Proof.Laws.EncodeShape.of_push rfl rfl
theorem Sys2Proof.Laws.EncodeShape.push15 (imm : Sys2Proof.Word) : Sys2Proof.Laws.EncodeShape.Statement (.push15 imm) := Sys2Proof.Laws.EncodeShape.of_push rfl rfl
theorem Sys2Proof.Laws.EncodeShape.push16 (imm : Sys2Proof.Word) : Sys2Proof.Laws.EncodeShape.Statement (.push16 imm) := Sys2Proof.Laws.EncodeShape.of_push rfl rfl
theorem Sys2Proof.Laws.EncodeShape.push17 (imm : Sys2Proof.Word) : Sys2Proof.Laws.EncodeShape.Statement (.push17 imm) := Sys2Proof.Laws.EncodeShape.of_push rfl rfl
theorem Sys2Proof.Laws.EncodeShape.push18 (imm : Sys2Proof.Word) : Sys2Proof.Laws.EncodeShape.Statement (.push18 imm) := Sys2Proof.Laws.EncodeShape.of_push rfl rfl
theorem Sys2Proof.Laws.EncodeShape.push19 (imm : Sys2Proof.Word) : Sys2Proof.Laws.EncodeShape.Statement (.push19 imm) := Sys2Proof.Laws.EncodeShape.of_push rfl rfl
theorem Sys2Proof.Laws.EncodeShape.push20 (imm : Sys2Proof.Word) : Sys2Proof.Laws.EncodeShape.Statement (.push20 imm) := Sys2Proof.Laws.EncodeShape.of_push rfl rfl
theorem Sys2Proof.Laws.EncodeShape.push21 (imm : Sys2Proof.Word) : Sys2Proof.Laws.EncodeShape.Statement (.push21 imm) := Sys2Proof.Laws.EncodeShape.of_push rfl rfl
theorem Sys2Proof.Laws.EncodeShape.push22 (imm : Sys2Proof.Word) : Sys2Proof.Laws.EncodeShape.Statement (.push22 imm) := Sys2Proof.Laws.EncodeShape.of_push rfl rfl
theorem Sys2Proof.Laws.EncodeShape.push23 (imm : Sys2Proof.Word) : Sys2Proof.Laws.EncodeShape.Statement (.push23 imm) := Sys2Proof.Laws.EncodeShape.of_push rfl rfl
theorem Sys2Proof.Laws.EncodeShape.push24 (imm : Sys2Proof.Word) : Sys2Proof.Laws.EncodeShape.Statement (.push24 imm) := Sys2Proof.Laws.EncodeShape.of_push rfl rfl
theorem Sys2Proof.Laws.EncodeShape.push25 (imm : Sys2Proof.Word) : Sys2Proof.Laws.EncodeShape.Statement (.push25 imm) := Sys2Proof.Laws.EncodeShape.of_push rfl rfl
theorem Sys2Proof.Laws.EncodeShape.push26 (imm : Sys2Proof.Word) : Sys2Proof.Laws.EncodeShape.Statement (.push26 imm) := Sys2Proof.Laws.EncodeShape.of_push rfl rfl
theorem Sys2Proof.Laws.EncodeShape.push27 (imm : Sys2Proof.Word) : Sys2Proof.Laws.EncodeShape.Statement (.push27 imm) := Sys2Proof.Laws.EncodeShape.of_push rfl rfl
theorem Sys2Proof.Laws.EncodeShape.push28 (imm : Sys2Proof.Word) : Sys2Proof.Laws.EncodeShape.Statement (.push28 imm) := Sys2Proof.Laws.EncodeShape.of_push rfl rfl
theorem Sys2Proof.Laws.EncodeShape.push29 (imm : Sys2Proof.Word) : Sys2Proof.Laws.EncodeShape.Statement (.push29 imm) := Sys2Proof.Laws.EncodeShape.of_push rfl rfl
theorem Sys2Proof.Laws.EncodeShape.push30 (imm : Sys2Proof.Word) : Sys2Proof.Laws.EncodeShape.Statement (.push30 imm) := Sys2Proof.Laws.EncodeShape.of_push rfl rfl
theorem Sys2Proof.Laws.EncodeShape.push31 (imm : Sys2Proof.Word) : Sys2Proof.Laws.EncodeShape.Statement (.push31 imm) := Sys2Proof.Laws.EncodeShape.of_push rfl rfl
theorem Sys2Proof.Laws.EncodeShape.push32 (imm : Sys2Proof.Word) : Sys2Proof.Laws.EncodeShape.Statement (.push32 imm) := Sys2Proof.Laws.EncodeShape.of_push rfl rfl
theorem Sys2Proof.Laws.EncodeShape.dup1 : Sys2Proof.Laws.EncodeShape.Statement .dup1 := ⟨_, _, rfl, rfl⟩
theorem Sys2Proof.Laws.EncodeShape.dup2 : Sys2Proof.Laws.EncodeShape.Statement .dup2 := ⟨_, _, rfl, rfl⟩
theorem Sys2Proof.Laws.EncodeShape.dup3 : Sys2Proof.Laws.EncodeShape.Statement .dup3 := ⟨_, _, rfl, rfl⟩
theorem Sys2Proof.Laws.EncodeShape.dup4 : Sys2Proof.Laws.EncodeShape.Statement .dup4 := ⟨_, _, rfl, rfl⟩
theorem Sys2Proof.Laws.EncodeShape.dup5 : Sys2Proof.Laws.EncodeShape.Statement .dup5 := ⟨_, _, rfl, rfl⟩
theorem Sys2Proof.Laws.EncodeShape.dup6 : Sys2Proof.Laws.EncodeShape.Statement .dup6 := ⟨_, _, rfl, rfl⟩
theorem Sys2Proof.Laws.EncodeShape.dup7 : Sys2Proof.Laws.EncodeShape.Statement .dup7 := ⟨_, _, rfl, rfl⟩
theorem Sys2Proof.Laws.EncodeShape.dup8 : Sys2Proof.Laws.EncodeShape.Statement .dup8 := ⟨_, _, rfl, rfl⟩
theorem Sys2Proof.Laws.EncodeShape.dup9 : Sys2Proof.Laws.EncodeShape.Statement .dup9 := ⟨_, _, rfl, rfl⟩
theorem Sys2Proof.Laws.EncodeShape.dup10 : Sys2Proof.Laws.EncodeShape.Statement .dup10 := ⟨_, _, rfl, rfl⟩
theorem Sys2Proof.Laws.EncodeShape.dup11 : Sys2Proof.Laws.EncodeShape.Statement .dup11 := ⟨_, _, rfl, rfl⟩
theorem Sys2Proof.Laws.EncodeShape.dup12 : Sys2Proof.Laws.EncodeShape.Statement .dup12 := ⟨_, _, rfl, rfl⟩
theorem Sys2Proof.Laws.EncodeShape.dup13 : Sys2Proof.Laws.EncodeShape.Statement .dup13 := ⟨_, _, rfl, rfl⟩
theorem Sys2Proof.Laws.EncodeShape.dup14 : Sys2Proof.Laws.EncodeShape.Statement .dup14 := ⟨_, _, rfl, rfl⟩
theorem Sys2Proof.Laws.EncodeShape.dup15 : Sys2Proof.Laws.EncodeShape.Statement .dup15 := ⟨_, _, rfl, rfl⟩
theorem Sys2Proof.Laws.EncodeShape.dup16 : Sys2Proof.Laws.EncodeShape.Statement .dup16 := ⟨_, _, rfl, rfl⟩
theorem Sys2Proof.Laws.EncodeShape.swap1 : Sys2Proof.Laws.EncodeShape.Statement .swap1 := ⟨_, _, rfl, rfl⟩
theorem Sys2Proof.Laws.EncodeShape.swap2 : Sys2Proof.Laws.EncodeShape.Statement .swap2 := ⟨_, _, rfl, rfl⟩
theorem Sys2Proof.Laws.EncodeShape.swap3 : Sys2Proof.Laws.EncodeShape.Statement .swap3 := ⟨_, _, rfl, rfl⟩
theorem Sys2Proof.Laws.EncodeShape.swap4 : Sys2Proof.Laws.EncodeShape.Statement .swap4 := ⟨_, _, rfl, rfl⟩
theorem Sys2Proof.Laws.EncodeShape.swap5 : Sys2Proof.Laws.EncodeShape.Statement .swap5 := ⟨_, _, rfl, rfl⟩
theorem Sys2Proof.Laws.EncodeShape.swap6 : Sys2Proof.Laws.EncodeShape.Statement .swap6 := ⟨_, _, rfl, rfl⟩
theorem Sys2Proof.Laws.EncodeShape.swap7 : Sys2Proof.Laws.EncodeShape.Statement .swap7 := ⟨_, _, rfl, rfl⟩
theorem Sys2Proof.Laws.EncodeShape.swap8 : Sys2Proof.Laws.EncodeShape.Statement .swap8 := ⟨_, _, rfl, rfl⟩
theorem Sys2Proof.Laws.EncodeShape.swap9 : Sys2Proof.Laws.EncodeShape.Statement .swap9 := ⟨_, _, rfl, rfl⟩
theorem Sys2Proof.Laws.EncodeShape.swap10 : Sys2Proof.Laws.EncodeShape.Statement .swap10 := ⟨_, _, rfl, rfl⟩
theorem Sys2Proof.Laws.EncodeShape.swap11 : Sys2Proof.Laws.EncodeShape.Statement .swap11 := ⟨_, _, rfl, rfl⟩
theorem Sys2Proof.Laws.EncodeShape.swap12 : Sys2Proof.Laws.EncodeShape.Statement .swap12 := ⟨_, _, rfl, rfl⟩
theorem Sys2Proof.Laws.EncodeShape.swap13 : Sys2Proof.Laws.EncodeShape.Statement .swap13 := ⟨_, _, rfl, rfl⟩
theorem Sys2Proof.Laws.EncodeShape.swap14 : Sys2Proof.Laws.EncodeShape.Statement .swap14 := ⟨_, _, rfl, rfl⟩
theorem Sys2Proof.Laws.EncodeShape.swap15 : Sys2Proof.Laws.EncodeShape.Statement .swap15 := ⟨_, _, rfl, rfl⟩
theorem Sys2Proof.Laws.EncodeShape.swap16 : Sys2Proof.Laws.EncodeShape.Statement .swap16 := ⟨_, _, rfl, rfl⟩
theorem Sys2Proof.Laws.EncodeShape.unassignedA0 : Sys2Proof.Laws.EncodeShape.Statement .unassignedA0 := ⟨_, _, rfl, rfl⟩
theorem Sys2Proof.Laws.EncodeShape.unassignedA1 : Sys2Proof.Laws.EncodeShape.Statement .unassignedA1 := ⟨_, _, rfl, rfl⟩
theorem Sys2Proof.Laws.EncodeShape.unassignedA2 : Sys2Proof.Laws.EncodeShape.Statement .unassignedA2 := ⟨_, _, rfl, rfl⟩
theorem Sys2Proof.Laws.EncodeShape.unassignedA3 : Sys2Proof.Laws.EncodeShape.Statement .unassignedA3 := ⟨_, _, rfl, rfl⟩
theorem Sys2Proof.Laws.EncodeShape.unassignedA4 : Sys2Proof.Laws.EncodeShape.Statement .unassignedA4 := ⟨_, _, rfl, rfl⟩
theorem Sys2Proof.Laws.EncodeShape.unassignedA5 : Sys2Proof.Laws.EncodeShape.Statement .unassignedA5 := ⟨_, _, rfl, rfl⟩
theorem Sys2Proof.Laws.EncodeShape.unassignedA6 : Sys2Proof.Laws.EncodeShape.Statement .unassignedA6 := ⟨_, _, rfl, rfl⟩
theorem Sys2Proof.Laws.EncodeShape.unassignedA7 : Sys2Proof.Laws.EncodeShape.Statement .unassignedA7 := ⟨_, _, rfl, rfl⟩
theorem Sys2Proof.Laws.EncodeShape.unassignedA8 : Sys2Proof.Laws.EncodeShape.Statement .unassignedA8 := ⟨_, _, rfl, rfl⟩
theorem Sys2Proof.Laws.EncodeShape.unassignedA9 : Sys2Proof.Laws.EncodeShape.Statement .unassignedA9 := ⟨_, _, rfl, rfl⟩
theorem Sys2Proof.Laws.EncodeShape.unassignedAA : Sys2Proof.Laws.EncodeShape.Statement .unassignedAA := ⟨_, _, rfl, rfl⟩
theorem Sys2Proof.Laws.EncodeShape.unassignedAB : Sys2Proof.Laws.EncodeShape.Statement .unassignedAB := ⟨_, _, rfl, rfl⟩
theorem Sys2Proof.Laws.EncodeShape.unassignedAC : Sys2Proof.Laws.EncodeShape.Statement .unassignedAC := ⟨_, _, rfl, rfl⟩
theorem Sys2Proof.Laws.EncodeShape.unassignedAD : Sys2Proof.Laws.EncodeShape.Statement .unassignedAD := ⟨_, _, rfl, rfl⟩
theorem Sys2Proof.Laws.EncodeShape.unassignedAE : Sys2Proof.Laws.EncodeShape.Statement .unassignedAE := ⟨_, _, rfl, rfl⟩
theorem Sys2Proof.Laws.EncodeShape.unassignedAF : Sys2Proof.Laws.EncodeShape.Statement .unassignedAF := ⟨_, _, rfl, rfl⟩
theorem Sys2Proof.Laws.EncodeShape.unassignedB0 : Sys2Proof.Laws.EncodeShape.Statement .unassignedB0 := ⟨_, _, rfl, rfl⟩
theorem Sys2Proof.Laws.EncodeShape.unassignedB1 : Sys2Proof.Laws.EncodeShape.Statement .unassignedB1 := ⟨_, _, rfl, rfl⟩
theorem Sys2Proof.Laws.EncodeShape.unassignedB2 : Sys2Proof.Laws.EncodeShape.Statement .unassignedB2 := ⟨_, _, rfl, rfl⟩
theorem Sys2Proof.Laws.EncodeShape.unassignedB3 : Sys2Proof.Laws.EncodeShape.Statement .unassignedB3 := ⟨_, _, rfl, rfl⟩
theorem Sys2Proof.Laws.EncodeShape.unassignedB4 : Sys2Proof.Laws.EncodeShape.Statement .unassignedB4 := ⟨_, _, rfl, rfl⟩
theorem Sys2Proof.Laws.EncodeShape.unassignedB5 : Sys2Proof.Laws.EncodeShape.Statement .unassignedB5 := ⟨_, _, rfl, rfl⟩
theorem Sys2Proof.Laws.EncodeShape.unassignedB6 : Sys2Proof.Laws.EncodeShape.Statement .unassignedB6 := ⟨_, _, rfl, rfl⟩
theorem Sys2Proof.Laws.EncodeShape.unassignedB7 : Sys2Proof.Laws.EncodeShape.Statement .unassignedB7 := ⟨_, _, rfl, rfl⟩
theorem Sys2Proof.Laws.EncodeShape.unassignedB8 : Sys2Proof.Laws.EncodeShape.Statement .unassignedB8 := ⟨_, _, rfl, rfl⟩
theorem Sys2Proof.Laws.EncodeShape.unassignedB9 : Sys2Proof.Laws.EncodeShape.Statement .unassignedB9 := ⟨_, _, rfl, rfl⟩
theorem Sys2Proof.Laws.EncodeShape.unassignedBA : Sys2Proof.Laws.EncodeShape.Statement .unassignedBA := ⟨_, _, rfl, rfl⟩
theorem Sys2Proof.Laws.EncodeShape.unassignedBB : Sys2Proof.Laws.EncodeShape.Statement .unassignedBB := ⟨_, _, rfl, rfl⟩
theorem Sys2Proof.Laws.EncodeShape.unassignedBC : Sys2Proof.Laws.EncodeShape.Statement .unassignedBC := ⟨_, _, rfl, rfl⟩
theorem Sys2Proof.Laws.EncodeShape.unassignedBD : Sys2Proof.Laws.EncodeShape.Statement .unassignedBD := ⟨_, _, rfl, rfl⟩
theorem Sys2Proof.Laws.EncodeShape.unassignedBE : Sys2Proof.Laws.EncodeShape.Statement .unassignedBE := ⟨_, _, rfl, rfl⟩
theorem Sys2Proof.Laws.EncodeShape.unassignedBF : Sys2Proof.Laws.EncodeShape.Statement .unassignedBF := ⟨_, _, rfl, rfl⟩
theorem Sys2Proof.Laws.EncodeShape.unassignedC0 : Sys2Proof.Laws.EncodeShape.Statement .unassignedC0 := ⟨_, _, rfl, rfl⟩
theorem Sys2Proof.Laws.EncodeShape.unassignedC1 : Sys2Proof.Laws.EncodeShape.Statement .unassignedC1 := ⟨_, _, rfl, rfl⟩
theorem Sys2Proof.Laws.EncodeShape.unassignedC2 : Sys2Proof.Laws.EncodeShape.Statement .unassignedC2 := ⟨_, _, rfl, rfl⟩
theorem Sys2Proof.Laws.EncodeShape.unassignedC3 : Sys2Proof.Laws.EncodeShape.Statement .unassignedC3 := ⟨_, _, rfl, rfl⟩
theorem Sys2Proof.Laws.EncodeShape.unassignedC4 : Sys2Proof.Laws.EncodeShape.Statement .unassignedC4 := ⟨_, _, rfl, rfl⟩
theorem Sys2Proof.Laws.EncodeShape.unassignedC5 : Sys2Proof.Laws.EncodeShape.Statement .unassignedC5 := ⟨_, _, rfl, rfl⟩
theorem Sys2Proof.Laws.EncodeShape.unassignedC6 : Sys2Proof.Laws.EncodeShape.Statement .unassignedC6 := ⟨_, _, rfl, rfl⟩
theorem Sys2Proof.Laws.EncodeShape.unassignedC7 : Sys2Proof.Laws.EncodeShape.Statement .unassignedC7 := ⟨_, _, rfl, rfl⟩
theorem Sys2Proof.Laws.EncodeShape.unassignedC8 : Sys2Proof.Laws.EncodeShape.Statement .unassignedC8 := ⟨_, _, rfl, rfl⟩
theorem Sys2Proof.Laws.EncodeShape.unassignedC9 : Sys2Proof.Laws.EncodeShape.Statement .unassignedC9 := ⟨_, _, rfl, rfl⟩
theorem Sys2Proof.Laws.EncodeShape.unassignedCA : Sys2Proof.Laws.EncodeShape.Statement .unassignedCA := ⟨_, _, rfl, rfl⟩
theorem Sys2Proof.Laws.EncodeShape.unassignedCB : Sys2Proof.Laws.EncodeShape.Statement .unassignedCB := ⟨_, _, rfl, rfl⟩
theorem Sys2Proof.Laws.EncodeShape.unassignedCC : Sys2Proof.Laws.EncodeShape.Statement .unassignedCC := ⟨_, _, rfl, rfl⟩
theorem Sys2Proof.Laws.EncodeShape.unassignedCD : Sys2Proof.Laws.EncodeShape.Statement .unassignedCD := ⟨_, _, rfl, rfl⟩
theorem Sys2Proof.Laws.EncodeShape.unassignedCE : Sys2Proof.Laws.EncodeShape.Statement .unassignedCE := ⟨_, _, rfl, rfl⟩
theorem Sys2Proof.Laws.EncodeShape.unassignedCF : Sys2Proof.Laws.EncodeShape.Statement .unassignedCF := ⟨_, _, rfl, rfl⟩
theorem Sys2Proof.Laws.EncodeShape.unassignedD0 : Sys2Proof.Laws.EncodeShape.Statement .unassignedD0 := ⟨_, _, rfl, rfl⟩
theorem Sys2Proof.Laws.EncodeShape.unassignedD1 : Sys2Proof.Laws.EncodeShape.Statement .unassignedD1 := ⟨_, _, rfl, rfl⟩
theorem Sys2Proof.Laws.EncodeShape.unassignedD2 : Sys2Proof.Laws.EncodeShape.Statement .unassignedD2 := ⟨_, _, rfl, rfl⟩
theorem Sys2Proof.Laws.EncodeShape.unassignedD3 : Sys2Proof.Laws.EncodeShape.Statement .unassignedD3 := ⟨_, _, rfl, rfl⟩
theorem Sys2Proof.Laws.EncodeShape.unassignedD4 : Sys2Proof.Laws.EncodeShape.Statement .unassignedD4 := ⟨_, _, rfl, rfl⟩
theorem Sys2Proof.Laws.EncodeShape.unassignedD5 : Sys2Proof.Laws.EncodeShape.Statement .unassignedD5 := ⟨_, _, rfl, rfl⟩
theorem Sys2Proof.Laws.EncodeShape.unassignedD6 : Sys2Proof.Laws.EncodeShape.Statement .unassignedD6 := ⟨_, _, rfl, rfl⟩
theorem Sys2Proof.Laws.EncodeShape.unassignedD7 : Sys2Proof.Laws.EncodeShape.Statement .unassignedD7 := ⟨_, _, rfl, rfl⟩
theorem Sys2Proof.Laws.EncodeShape.unassignedD8 : Sys2Proof.Laws.EncodeShape.Statement .unassignedD8 := ⟨_, _, rfl, rfl⟩
theorem Sys2Proof.Laws.EncodeShape.unassignedD9 : Sys2Proof.Laws.EncodeShape.Statement .unassignedD9 := ⟨_, _, rfl, rfl⟩
theorem Sys2Proof.Laws.EncodeShape.unassignedDA : Sys2Proof.Laws.EncodeShape.Statement .unassignedDA := ⟨_, _, rfl, rfl⟩
theorem Sys2Proof.Laws.EncodeShape.unassignedDB : Sys2Proof.Laws.EncodeShape.Statement .unassignedDB := ⟨_, _, rfl, rfl⟩
theorem Sys2Proof.Laws.EncodeShape.unassignedDC : Sys2Proof.Laws.EncodeShape.Statement .unassignedDC := ⟨_, _, rfl, rfl⟩
theorem Sys2Proof.Laws.EncodeShape.unassignedDD : Sys2Proof.Laws.EncodeShape.Statement .unassignedDD := ⟨_, _, rfl, rfl⟩
theorem Sys2Proof.Laws.EncodeShape.unassignedDE : Sys2Proof.Laws.EncodeShape.Statement .unassignedDE := ⟨_, _, rfl, rfl⟩
theorem Sys2Proof.Laws.EncodeShape.unassignedDF : Sys2Proof.Laws.EncodeShape.Statement .unassignedDF := ⟨_, _, rfl, rfl⟩
theorem Sys2Proof.Laws.EncodeShape.unassignedE0 : Sys2Proof.Laws.EncodeShape.Statement .unassignedE0 := ⟨_, _, rfl, rfl⟩
theorem Sys2Proof.Laws.EncodeShape.unassignedE1 : Sys2Proof.Laws.EncodeShape.Statement .unassignedE1 := ⟨_, _, rfl, rfl⟩
theorem Sys2Proof.Laws.EncodeShape.unassignedE2 : Sys2Proof.Laws.EncodeShape.Statement .unassignedE2 := ⟨_, _, rfl, rfl⟩
theorem Sys2Proof.Laws.EncodeShape.unassignedE3 : Sys2Proof.Laws.EncodeShape.Statement .unassignedE3 := ⟨_, _, rfl, rfl⟩
theorem Sys2Proof.Laws.EncodeShape.unassignedE4 : Sys2Proof.Laws.EncodeShape.Statement .unassignedE4 := ⟨_, _, rfl, rfl⟩
theorem Sys2Proof.Laws.EncodeShape.unassignedE5 : Sys2Proof.Laws.EncodeShape.Statement .unassignedE5 := ⟨_, _, rfl, rfl⟩
theorem Sys2Proof.Laws.EncodeShape.unassignedE6 : Sys2Proof.Laws.EncodeShape.Statement .unassignedE6 := ⟨_, _, rfl, rfl⟩
theorem Sys2Proof.Laws.EncodeShape.unassignedE7 : Sys2Proof.Laws.EncodeShape.Statement .unassignedE7 := ⟨_, _, rfl, rfl⟩
theorem Sys2Proof.Laws.EncodeShape.unassignedE8 : Sys2Proof.Laws.EncodeShape.Statement .unassignedE8 := ⟨_, _, rfl, rfl⟩
theorem Sys2Proof.Laws.EncodeShape.unassignedE9 : Sys2Proof.Laws.EncodeShape.Statement .unassignedE9 := ⟨_, _, rfl, rfl⟩
theorem Sys2Proof.Laws.EncodeShape.unassignedEA : Sys2Proof.Laws.EncodeShape.Statement .unassignedEA := ⟨_, _, rfl, rfl⟩
theorem Sys2Proof.Laws.EncodeShape.unassignedEB : Sys2Proof.Laws.EncodeShape.Statement .unassignedEB := ⟨_, _, rfl, rfl⟩
theorem Sys2Proof.Laws.EncodeShape.unassignedEC : Sys2Proof.Laws.EncodeShape.Statement .unassignedEC := ⟨_, _, rfl, rfl⟩
theorem Sys2Proof.Laws.EncodeShape.unassignedED : Sys2Proof.Laws.EncodeShape.Statement .unassignedED := ⟨_, _, rfl, rfl⟩
theorem Sys2Proof.Laws.EncodeShape.unassignedEE : Sys2Proof.Laws.EncodeShape.Statement .unassignedEE := ⟨_, _, rfl, rfl⟩
theorem Sys2Proof.Laws.EncodeShape.unassignedEF : Sys2Proof.Laws.EncodeShape.Statement .unassignedEF := ⟨_, _, rfl, rfl⟩
theorem Sys2Proof.Laws.EncodeShape.unassignedF0 : Sys2Proof.Laws.EncodeShape.Statement .unassignedF0 := ⟨_, _, rfl, rfl⟩
theorem Sys2Proof.Laws.EncodeShape.unassignedF1 : Sys2Proof.Laws.EncodeShape.Statement .unassignedF1 := ⟨_, _, rfl, rfl⟩
theorem Sys2Proof.Laws.EncodeShape.unassignedF2 : Sys2Proof.Laws.EncodeShape.Statement .unassignedF2 := ⟨_, _, rfl, rfl⟩
theorem Sys2Proof.Laws.EncodeShape.unassignedF3 : Sys2Proof.Laws.EncodeShape.Statement .unassignedF3 := ⟨_, _, rfl, rfl⟩
theorem Sys2Proof.Laws.EncodeShape.unassignedF4 : Sys2Proof.Laws.EncodeShape.Statement .unassignedF4 := ⟨_, _, rfl, rfl⟩
theorem Sys2Proof.Laws.EncodeShape.unassignedF5 : Sys2Proof.Laws.EncodeShape.Statement .unassignedF5 := ⟨_, _, rfl, rfl⟩
theorem Sys2Proof.Laws.EncodeShape.unassignedF6 : Sys2Proof.Laws.EncodeShape.Statement .unassignedF6 := ⟨_, _, rfl, rfl⟩
theorem Sys2Proof.Laws.EncodeShape.unassignedF7 : Sys2Proof.Laws.EncodeShape.Statement .unassignedF7 := ⟨_, _, rfl, rfl⟩
theorem Sys2Proof.Laws.EncodeShape.unassignedF8 : Sys2Proof.Laws.EncodeShape.Statement .unassignedF8 := ⟨_, _, rfl, rfl⟩
theorem Sys2Proof.Laws.EncodeShape.unassignedF9 : Sys2Proof.Laws.EncodeShape.Statement .unassignedF9 := ⟨_, _, rfl, rfl⟩
theorem Sys2Proof.Laws.EncodeShape.unassignedFA : Sys2Proof.Laws.EncodeShape.Statement .unassignedFA := ⟨_, _, rfl, rfl⟩
theorem Sys2Proof.Laws.EncodeShape.unassignedFB : Sys2Proof.Laws.EncodeShape.Statement .unassignedFB := ⟨_, _, rfl, rfl⟩
theorem Sys2Proof.Laws.EncodeShape.unassignedFC : Sys2Proof.Laws.EncodeShape.Statement .unassignedFC := ⟨_, _, rfl, rfl⟩
theorem Sys2Proof.Laws.EncodeShape.unassignedFD : Sys2Proof.Laws.EncodeShape.Statement .unassignedFD := ⟨_, _, rfl, rfl⟩
theorem Sys2Proof.Laws.EncodeShape.invalid : Sys2Proof.Laws.EncodeShape.Statement .invalid := ⟨_, _, rfl, rfl⟩
theorem Sys2Proof.Laws.EncodeShape.unassignedFF : Sys2Proof.Laws.EncodeShape.Statement .unassignedFF := ⟨_, _, rfl, rfl⟩
end

