-- ==== Sys2Proof/Laws/Bytes.lean ====
section
/-! SUPPORT. Byte order: reading big-endian bytes back gives the number they were written from. -/

namespace Sys2Proof

theorem bytesToNat_foldl (bs : List Byte) (acc : Nat) :
    bs.foldl (fun acc b => acc * 256 + b.toNat) acc = acc * 256 ^ bs.length + bytesToNat bs := by
  induction bs generalizing acc with
  | nil => simp [bytesToNat]
  | cons b bs ih =>
    simp only [bytesToNat, List.foldl_cons, List.length_cons]
    rw [ih, ih (0 * 256 + b.toNat)]
    ring

theorem bytesToNat_cons (b : Byte) (bs : List Byte) :
    bytesToNat (b :: bs) = b.toNat * 256 ^ bs.length + bytesToNat bs := by
  have h := bytesToNat_foldl bs (0 * 256 + b.toNat)
  simpa [bytesToNat] using h

theorem bytesToNat_lt (bs : List Byte) : bytesToNat bs < 256 ^ bs.length := by
  induction bs with
  | nil => simp [bytesToNat]
  | cons b bs ih =>
    rw [bytesToNat_cons, List.length_cons, pow_succ]
    have := b.isLt
    nlinarith [pow_pos (show 0 < 256 by norm_num) bs.length]

@[simp] theorem natToBytes_length (n v : Nat) : (natToBytes n v).length = n := Laws.natToBytes_length n v

@[simp] theorem padTo_length (n : Nat) (bs : List Byte) : (padTo n bs).length = n := by
  induction n generalizing bs with
  | zero => rfl
  | succ n ih => cases bs <;> simp [padTo, ih]

theorem bytesToNat_natToBytes (n v : Nat) : bytesToNat (natToBytes n v) = v % 256 ^ n := by
  induction n with
  | zero => simp [natToBytes, bytesToNat, Nat.mod_one]
  | succ n ih =>
    rw [natToBytes, bytesToNat_cons, ih, natToBytes_length, pow_succ, BitVec.toNat_ofNat, Nat.mod_mul]
    ring

/-- Enough bytes are kept as they are. -/
theorem padTo_append (bs rest : List Byte) : padTo bs.length (bs ++ rest) = bs := by
  induction bs with
  | nil => rfl
  | cons b bs ih => simp [padTo, ih]

/-- The bytes of a number below `256 ^ n`, read back whatever follows them. -/
theorem immediate_natToBytes {n : Nat} {v : Word} (h : v.toNat < 256 ^ n) (rest : List Byte) :
    immediate n (natToBytes n v.toNat ++ rest) = v := by
  have hp : padTo n (natToBytes n v.toNat ++ rest) = natToBytes n v.toNat := by
    have := padTo_append (natToBytes n v.toNat) rest
    rwa [natToBytes_length] at this
  simp [immediate, bytesWord, hp, bytesToNat_natToBytes, Nat.mod_eq_of_lt h]

theorem natToBytes_bytesToNat (bs : List Byte) : natToBytes bs.length (bytesToNat bs) = bs := by
  induction bs with
  | nil => rfl
  | cons b bs ih =>
    have hlt := bytesToNat_lt bs
    have hpos : 0 < 256 ^ bs.length := by positivity
    have hdiv : (b.toNat * 256 ^ bs.length + bytesToNat bs) / 256 ^ bs.length = b.toNat := by
      rw [mul_comm, Nat.mul_add_div hpos, Nat.div_eq_of_lt hlt, add_zero]
    have hmod : ∀ m ≤ bs.length, ∀ c, natToBytes m (c * 256 ^ bs.length + bytesToNat bs) = natToBytes m (bytesToNat bs) := by
      intro m
      induction m with
      | zero => intros; rfl
      | succ m ihm =>
        intro hm c
        simp only [natToBytes]
        rw [ihm (by omega) c]
        congr 1
        apply BitVec.eq_of_toNat_eq
        obtain ⟨d, hd⟩ := Nat.exists_eq_add_of_lt (show m < bs.length by omega)
        have hpm : 0 < 256 ^ m := by positivity
        have e : c * 256 ^ bs.length = 256 ^ m * (256 * (c * 256 ^ d)) := by rw [hd]; ring
        rw [BitVec.toNat_ofNat, BitVec.toNat_ofNat, e, Nat.mul_add_div hpm]
        omega
    rw [List.length_cons, natToBytes, bytesToNat_cons, hdiv, hmod _ le_rfl, ih]
    simp

/-- Byte `i` from the most significant. -/
theorem natToBytes_getElem? (n v i : Nat) (h : i < n) :
    (natToBytes n v)[i]? = some (BitVec.ofNat 8 (v / 256 ^ (n - 1 - i))) := by
  induction n generalizing i with
  | zero => omega
  | succ n ih =>
    cases i with
    | zero => simp [natToBytes]
    | succ i => simp [natToBytes, ih i (by omega), show n - (i + 1) = n - 1 - i by omega]

@[simp] theorem wordBytes_length (w : Word) : (wordBytes w).length = 32 := natToBytes_length 32 _

theorem bytesWord_wordBytes (w : Word) : bytesWord (wordBytes w) = w := by
  have h := w.isLt
  apply BitVec.eq_of_toNat_eq
  rw [bytesWord, wordBytes, bytesToNat_natToBytes, BitVec.toNat_ofNat]
  norm_num at h ⊢
  omega

theorem wordBytes_bytesWord {bs : List Byte} (h : bs.length = 32) : wordBytes (bytesWord bs) = bs := by
  have hlt := bytesToNat_lt bs
  have heq := natToBytes_bytesToNat bs
  rw [h] at hlt heq
  rw [wordBytes, bytesWord, BitVec.toNat_ofNat, Nat.mod_eq_of_lt (by norm_num at hlt ⊢; exact hlt), heq]

end Sys2Proof
end

