-- ==== Sys2Proof/Laws/State.lean ====
section
/-! SUPPORT. One lemma per field per update of the state, so that no later proof unfolds an update. -/

namespace Sys2Proof.Machine

@[simp] theorem raise_stack (k : FailureKind) (s : State) : (raise k s).stack = s.stack := rfl
@[simp] theorem raise_pc (k : FailureKind) (s : State) : (raise k s).pc = s.pc := rfl
@[simp] theorem raise_status (k : FailureKind) (s : State) : (raise k s).status = .failed := rfl
@[simp] theorem raise_fault (k : FailureKind) (s : State) : (raise k s).fault = some k := rfl
@[simp] theorem raise_mem (k : FailureKind) (s : State) : (raise k s).mem = s.mem := rfl
@[simp] theorem raise_code (k : FailureKind) (s : State) : (raise k s).code = s.code := rfl
@[simp] theorem raise_valid (k : FailureKind) (s : State) : (raise k s).valid = s.valid := rfl
@[simp] theorem raise_tx (k : FailureKind) (s : State) : (raise k s).tx = s.tx := rfl
@[simp] theorem raise_blk (k : FailureKind) (s : State) : (raise k s).blk = s.blk := rfl
@[simp] theorem raise_cfg (k : FailureKind) (s : State) : (raise k s).cfg = s.cfg := rfl
@[simp] theorem halt_stack (s : State) : (halt s).stack = s.stack := rfl
@[simp] theorem halt_pc (s : State) : (halt s).pc = s.pc := rfl
@[simp] theorem halt_status (s : State) : (halt s).status = .halted := rfl
@[simp] theorem halt_fault (s : State) : (halt s).fault = s.fault := rfl
@[simp] theorem halt_mem (s : State) : (halt s).mem = s.mem := rfl
@[simp] theorem halt_code (s : State) : (halt s).code = s.code := rfl
@[simp] theorem halt_valid (s : State) : (halt s).valid = s.valid := rfl
@[simp] theorem halt_tx (s : State) : (halt s).tx = s.tx := rfl
@[simp] theorem halt_blk (s : State) : (halt s).blk = s.blk := rfl
@[simp] theorem halt_cfg (s : State) : (halt s).cfg = s.cfg := rfl

@[simp] theorem depth_eq (s : State) : s.depth = s.stack.length := rfl

@[simp] theorem entry_zero (s : State) : s.entry 0 = none := rfl
@[simp] theorem entry_succ (s : State) (k : Nat) : s.entry (k + 1) = s.stack[k]? := rfl

@[simp] theorem failStep_eq (k : FailureKind) (s : State) : failStep k s = .next (raise k s) := rfl

@[simp] theorem advance_eq (n : Nat) (s : State) : advance n s = .next { s with pc := s.pc + n } := rfl

end Sys2Proof.Machine
end

