-- ==== Sys2Proof/Laws/Memory.lean ====
section
/-! SUPPORT. Data memory: a read after a write, and that every memory operation keeps the canonical form. -/

namespace Sys2Proof.Machine

theorem cellsRead_of_lt {len lo i : Nat} {cs : List Host.Cell} (h : cellsOk len lo cs = true) (hi : i < lo) :
    cellsRead cs i = 0 := by
  induction cs generalizing lo with
  | nil => rfl
  | cons c cs ih =>
    obtain ⟨a, b⟩ := c
    simp only [cellsOk, Bool.and_eq_true, decide_eq_true_eq] at h
    simp only [cellsRead]
    rw [if_neg (by omega), ih h.2 (by omega)]

/-- A byte at MLEN or above is not listed. -/
theorem cellsRead_of_ge {len lo i : Nat} {cs : List Host.Cell} (h : cellsOk len lo cs = true) (hi : len ≤ i) :
    cellsRead cs i = 0 := by
  induction cs generalizing lo with
  | nil => rfl
  | cons c cs ih =>
    obtain ⟨a, b⟩ := c
    simp only [cellsOk, Bool.and_eq_true, decide_eq_true_eq] at h
    simp only [cellsRead]
    rw [if_neg (by omega), ih h.2]

theorem cellsRead_cellsWrite {len lo : Nat} {cs : List Host.Cell} (h : cellsOk len lo cs = true) (i j : Nat) (v : Byte) :
    cellsRead (cellsWrite cs i v) j = if j = i then v else cellsRead cs j := by
  induction cs generalizing lo with
  | nil =>
    simp only [cellsWrite]
    split
    · rename_i hv; simp [cellsRead, hv]
    · simp only [cellsRead, @eq_comm _ i j]
  | cons c cs ih =>
    obtain ⟨a, b⟩ := c
    simp only [cellsOk, Bool.and_eq_true, decide_eq_true_eq] at h
    have hz := fun {j : Nat} (hj : j < a + 1) => cellsRead_of_lt h.2 hj
    simp only [cellsWrite]
    split
    · split
      · rename_i h1 h2
        subst h2
        by_cases hj : j = i
        · subst hj; simp [cellsRead, show a ≠ j by omega, hz (show j < a + 1 by omega)]
        · simp [hj]
      · simp only [cellsRead]
        by_cases hj : j = i
        · simp [hj]
        · simp [hj, Ne.symm hj]
    · split
      · rename_i h1 h2
        subst h2
        split
        · rename_i h3
          subst h3
          by_cases hj : j = i
          · subst hj; simp [hz (show j < j + 1 by omega)]
          · simp [cellsRead, hj, Ne.symm hj]
        · simp only [cellsRead]
          by_cases hj : j = i
          · simp [hj]
          · simp [hj, Ne.symm hj]
      · rename_i h1 h2
        simp only [cellsRead, ih h.2]
        by_cases hj : a = j
        · subst hj; simp [Ne.symm h2]
        · simp [hj]

theorem cellsOk_mono {len len' lo lo' : Nat} {cs : List Host.Cell} (h : cellsOk len lo cs = true) (hl : len ≤ len')
    (ho : lo' ≤ lo) : cellsOk len' lo' cs = true := by
  induction cs generalizing lo lo' with
  | nil => rfl
  | cons c cs ih =>
    obtain ⟨a, b⟩ := c
    simp only [cellsOk, Bool.and_eq_true, decide_eq_true_eq] at h ⊢
    exact ⟨⟨⟨by omega, by omega⟩, h.1.2⟩, ih h.2 le_rfl⟩

theorem cellsOk_cellsWrite {len lo i : Nat} {cs : List Host.Cell} {v : Byte} (h : cellsOk len lo cs = true) (hlo : lo ≤ i)
    (hi : i < len) : cellsOk len lo (cellsWrite cs i v) = true := by
  induction cs generalizing lo with
  | nil =>
    simp only [cellsWrite]
    split <;> simp_all [cellsOk]
  | cons c cs ih =>
    obtain ⟨a, b⟩ := c
    have h' := h
    simp only [cellsOk, Bool.and_eq_true, decide_eq_true_eq] at h
    simp only [cellsWrite]
    split
    · split
      · exact h'
      · simp only [cellsOk, Bool.and_eq_true, decide_eq_true_eq]
        exact ⟨⟨⟨hlo, hi⟩, ‹_›⟩, ⟨⟨⟨by omega, h.1.1.2⟩, h.1.2⟩, h.2⟩⟩
    · split
      · split
        · exact cellsOk_mono h.2 le_rfl (by omega)
        · simp only [cellsOk, Bool.and_eq_true, decide_eq_true_eq]
          exact ⟨⟨⟨hlo, hi⟩, ‹_›⟩, by subst i; exact h.2⟩
      · simp only [cellsOk, Bool.and_eq_true, decide_eq_true_eq]
        exact ⟨h.1, ih h.2 (by omega)⟩

@[simp] theorem store_len (m : Memory) (off : Nat) (bs : List Byte) : (m.store off bs).len = m.len := by
  induction bs generalizing m off with
  | nil => rfl
  | cons b bs ih => rw [Memory.store, ih]

@[simp] theorem slice_length (m : Memory) (off n : Nat) : (m.slice off n).length = n := by
  induction n generalizing off with
  | zero => rfl
  | succ n ih => simp [Memory.slice, ih]

theorem slice_getElem? (m : Memory) (off n i : Nat) (hi : i < n) : (m.slice off n)[i]? = some (cellsRead m.cells (off + i)) := by
  induction n generalizing off i with
  | zero => omega
  | succ n ih =>
    cases i with
    | zero => simp [Memory.slice]
    | succ i => simp [Memory.slice, ih (off + 1) i (by omega), Nat.add_assoc, Nat.add_comm 1 i]

theorem wf_iff (m : Memory) : m.wf = true ↔ m.len % 32 = 0 ∧ cellsOk m.len 0 m.cells = true := by
  simp [Memory.wf]

theorem cellsWrite_wf {m : Memory} {i : Nat} {v : Byte} (h : m.wf = true) (hi : i < m.len) :
    Memory.wf { m with cells := cellsWrite m.cells i v } = true := by
  rw [wf_iff] at h ⊢
  exact ⟨h.1, cellsOk_cellsWrite h.2 (Nat.zero_le _) hi⟩

theorem store_wf {m : Memory} {off : Nat} {bs : List Byte} (h : m.wf = true) (hb : off + bs.length ≤ m.len) :
    (m.store off bs).wf = true := by
  induction bs generalizing m off with
  | nil => exact h
  | cons b bs ih =>
    simp only [List.length_cons] at hb
    exact ih (cellsWrite_wf h (by omega)) (by dsimp; omega)

/-- Reading after a store: the stored bytes, and every other byte as before. -/
theorem cellsRead_store {m : Memory} {off : Nat} {bs : List Byte} (h : m.wf = true) (hb : off + bs.length ≤ m.len) (j : Nat) :
    cellsRead (m.store off bs).cells j =
      if off ≤ j ∧ j < off + bs.length then bs.getD (j - off) 0 else cellsRead m.cells j := by
  induction bs generalizing m off with
  | nil => rw [if_neg (by simp)]; rfl
  | cons b bs ih =>
    simp only [List.length_cons] at hb
    rw [Memory.store, ih (cellsWrite_wf h (by omega)) (by dsimp; omega)]
    simp only [cellsRead_cellsWrite ((wf_iff m).1 h).2, List.length_cons]
    by_cases h1 : j = off
    · subst h1; rw [if_neg (by omega), if_pos rfl, if_pos (by omega)]; simp
    · by_cases h2 : off + 1 ≤ j ∧ j < off + 1 + bs.length
      · rw [if_pos h2, if_pos (by omega)]
        obtain ⟨d, rfl⟩ := Nat.exists_eq_add_of_le h2.1
        rw [show off + 1 + d - (off + 1) = d by omega, show off + 1 + d - off = d + 1 by omega]
        simp
      · rw [if_neg h2, if_neg h1, if_neg (by omega)]

/-- Everything MemEnsure can do (20_memory.md R62). -/
theorem ensure_cases (limit off len : Nat) (m : Memory) :
    (off + len ≤ m.len ∧ m.ensure limit off len = some m) ∨
    (m.len < off + len ∧ limit < off + len ∧ m.ensure limit off len = none) ∨
    (m.len < off + len ∧ off + len ≤ limit ∧
      m.ensure limit off len = some { m with len := 32 * ((off + len + 31) / 32) }) := by
  simp only [Memory.ensure]
  by_cases h1 : m.len < off + len
  · by_cases h2 : limit < off + len
    · exact .inr (.inl ⟨h1, h2, by simp [h1, h2]⟩)
    · exact .inr (.inr ⟨h1, by omega, by simp [h1, h2]⟩)
  · exact .inl ⟨by omega, by simp [h1]⟩

/-- What a memory that an access leaves behind keeps of the one before it. -/
theorem ensure_spec {limit off len : Nat} {m m' : Memory} (h : m.ensure limit off len = some m') :
    m'.cells = m.cells ∧ m.len ≤ m'.len ∧ off + len ≤ m'.len ∧ (m.wf = true → m'.wf = true) ∧
    (limit % 32 = 0 → m.len ≤ limit → m'.len ≤ limit) := by
  rcases ensure_cases limit off len m with ⟨h1, h2⟩ | ⟨_, _, h2⟩ | ⟨h1, h3, h2⟩
  · rw [h] at h2
    obtain rfl : m' = m := by simpa using h2
    exact ⟨rfl, le_rfl, h1, id, fun _ h => h⟩
  · rw [h] at h2; cases h2
  · rw [h] at h2
    obtain rfl := Option.some.inj h2
    refine ⟨rfl, by dsimp; omega, by dsimp; omega, fun hw => ?_, fun _ _ => by dsimp; omega⟩
    rw [wf_iff] at hw ⊢
    exact ⟨by dsimp; omega, cellsOk_mono hw.2 (by dsimp; omega) le_rfl⟩

theorem memLimit_mod (c : Config) : c.memLimit % 32 = 0 := by simp [Config.memLimit]

end Sys2Proof.Machine
end

