-- ==== Sys2Proof/Laws/Ops.lean ====
section
/-! SUPPORT. One lemma per shared operation that says once everything it can do. -/

namespace Sys2Proof.Machine

theorem push_cases (w : Word) (s : State) (k : State → StepOut) :
    (s.stack.length < 1024 ∧ push w s k = k { s with stack := w :: s.stack }) ∨
    (1024 ≤ s.stack.length ∧ push w s k = .next (raise .stackOverflow s)) := by
  by_cases h : s.stack.length < 1024
  · exact .inl ⟨h, by simp [push, h]⟩
  · exact .inr ⟨by omega, by simp [push, h]⟩

theorem push_of_lt {w : Word} {s : State} {k : State → StepOut} (h : s.stack.length < 1024) :
    push w s k = k { s with stack := w :: s.stack } := by simp [push, h]

theorem push_of_ge {w : Word} {s : State} {k : State → StepOut} (h : 1024 ≤ s.stack.length) :
    push w s k = .next (raise .stackOverflow s) := by simp [push, Nat.not_lt.2 h]

theorem pop1_cons {s : State} {a : Word} {rest : List Word} (h : s.stack = a :: rest) (k : Word → State → StepOut) :
    pop1 s k = k a { s with stack := rest } := by simp [pop1, h]

theorem pop1_short {s : State} (h : s.stack.length < 1) (k : Word → State → StepOut) :
    pop1 s k = .next (raise .stackUnderflow s) := by
  match hs : s.stack with
  | [] => simp [pop1, hs]
  | _ :: _ => simp [hs] at h

theorem pop2_cons {s : State} {a b : Word} {rest : List Word} (h : s.stack = a :: b :: rest)
    (k : Word → Word → State → StepOut) : pop2 s k = k a b { s with stack := rest } := by simp [pop2, h]

theorem pop2_short {s : State} (h : s.stack.length < 2) (k : Word → Word → State → StepOut) :
    pop2 s k = .next (raise .stackUnderflow s) := by
  match hs : s.stack with
  | [] => simp [pop2, hs]
  | [_] => simp [pop2, hs]
  | _ :: _ :: _ => simp [hs] at h

theorem pop3_cons {s : State} {a b c : Word} {rest : List Word} (h : s.stack = a :: b :: c :: rest)
    (k : Word → Word → Word → State → StepOut) : pop3 s k = k a b c { s with stack := rest } := by simp [pop3, h]

theorem pop3_short {s : State} (h : s.stack.length < 3) (k : Word → Word → Word → State → StepOut) :
    pop3 s k = .next (raise .stackUnderflow s) := by
  match hs : s.stack with
  | [] => simp [pop3, hs]
  | [_] => simp [pop3, hs]
  | [_, _] => simp [pop3, hs]
  | _ :: _ :: _ :: _ => simp only [hs, List.length_cons] at h; omega

theorem pop1_cases (s : State) (k : Word → State → StepOut) :
    (∃ a rest, s.stack = a :: rest ∧ pop1 s k = k a { s with stack := rest }) ∨
    (s.stack.length < 1 ∧ pop1 s k = .next (raise .stackUnderflow s)) := by
  match hs : s.stack with
  | [] => exact .inr ⟨by simp, pop1_short (by simp [hs]) k⟩
  | a :: rest => exact .inl ⟨a, rest, rfl, pop1_cons hs k⟩

theorem pop2_cases (s : State) (k : Word → Word → State → StepOut) :
    (∃ a b rest, s.stack = a :: b :: rest ∧ pop2 s k = k a b { s with stack := rest }) ∨
    (s.stack.length < 2 ∧ pop2 s k = .next (raise .stackUnderflow s)) := by
  match hs : s.stack with
  | [] => exact .inr ⟨by simp, pop2_short (by simp [hs]) k⟩
  | [_] => exact .inr ⟨by simp, pop2_short (by simp [hs]) k⟩
  | a :: b :: rest => exact .inl ⟨a, b, rest, rfl, pop2_cons hs k⟩

theorem pop3_cases (s : State) (k : Word → Word → Word → State → StepOut) :
    (∃ a b c rest, s.stack = a :: b :: c :: rest ∧ pop3 s k = k a b c { s with stack := rest }) ∨
    (s.stack.length < 3 ∧ pop3 s k = .next (raise .stackUnderflow s)) := by
  match hs : s.stack with
  | [] => exact .inr ⟨by simp, pop3_short (by simp [hs]) k⟩
  | [_] => exact .inr ⟨by simp, pop3_short (by simp [hs]) k⟩
  | [_, _] => exact .inr ⟨by simp, pop3_short (by simp [hs]) k⟩
  | a :: b :: c :: rest => exact .inl ⟨a, b, c, rest, rfl, pop3_cons hs k⟩

theorem peek_cases {n : Nat} (hn : 1 ≤ n) (s : State) (f : Word → StepOut) :
    (∃ w, n ≤ s.stack.length ∧ s.entry n = some w ∧ peek n s f = f w) ∨
    (s.stack.length < n ∧ s.entry n = none ∧ peek n s f = .next (raise .stackUnderflow s)) := by
  obtain ⟨k, rfl⟩ := Nat.exists_eq_add_of_le' hn
  match hw : s.stack[k]? with
  | some w => exact .inl ⟨w, (List.getElem?_eq_some_iff.1 hw).1, hw, by simp [peek, hw]⟩
  | none => exact .inr ⟨Nat.lt_succ_of_le (List.getElem?_eq_none_iff.1 hw), hw, by simp [peek, hw]⟩

/-- `S[k]` exists exactly for `1 <= k <= depth` (10_state.md R23). -/
theorem entry_eq_none_iff (s : State) (k : Nat) : s.entry k = none ↔ k < 1 ∨ s.stack.length < k := by
  cases k with
  | zero => simp
  | succ k => simp

theorem exchange_cases (n : Nat) (s : State) (k : State → StepOut) :
    (∃ t w, n < s.stack.length ∧ s.stack[0]? = some t ∧ s.stack[n]? = some w ∧
      exchange n s k = k { s with stack := (s.stack.set 0 w).set n t }) ∨
    (s.stack.length < n + 1 ∧ exchange n s k = .next (raise .stackUnderflow s)) := by
  by_cases h : n < s.stack.length
  · refine .inl ⟨s.stack[0]'(by omega), s.stack[n], h, by simp, by simp [h], ?_⟩
    simp [exchange, State.entry, h, (by omega : 0 < s.stack.length)]
  · refine .inr ⟨by omega, ?_⟩
    have : s.stack[n]? = none := by simpa using h
    simp only [exchange, entry_succ, this]
    split <;> simp_all

theorem memEnsure_cases (off len : Nat) (s : State) (k : State → StepOut) :
    (∃ m, s.mem.ensure s.cfg.memLimit off len = some m ∧ memEnsure off len s k = k { s with mem := m }) ∨
    (s.mem.len < off + len ∧ s.cfg.memLimit < off + len ∧
      memEnsure off len s k = .next (raise .memoryLimitExceeded s)) := by
  rcases ensure_cases s.cfg.memLimit off len s.mem with ⟨_, h⟩ | ⟨h1, h2, h⟩ | ⟨_, _, h⟩
  · exact .inl ⟨_, h, by simp [memEnsure, h]⟩
  · exact .inr ⟨h1, h2, by simp [memEnsure, h]⟩
  · exact .inl ⟨_, h, by simp [memEnsure, h]⟩

theorem memRead_eq (addr n : Nat) (s : State) (k : List Byte → State → StepOut) :
    memRead addr n s k = memEnsure addr n s fun s => k (s.mem.slice addr n) s := rfl

theorem memWrite_eq (addr : Nat) (bytes : List Byte) (s : State) (k : State → StepOut) :
    memWrite addr bytes s k = memEnsure addr bytes.length s fun s => k { s with mem := s.mem.store addr bytes } := rfl

theorem jumpTo_cases (t : Word) (s : State) :
    (s.validTarget t = true ∧ jumpTo t s = .next { s with pc := t.toNat }) ∨
    (s.validTarget t = false ∧ jumpTo t s = .next (raise .invalidJumpDestination s)) := by
  by_cases h : s.validTarget t = true
  · exact .inl ⟨h, by simp [jumpTo, h]⟩
  · exact .inr ⟨by simpa using h, by simp [jumpTo, h]⟩

theorem pushContext_cases (p : Bool) (r : CtxReg) (s : State) :
    (p = true ∧ pushContext p r s = push r.read s (advance 1)) ∨
    (p = false ∧ pushContext p r s = .next (raise .missingExecutionContext s)) := by
  cases p
  · exact .inr ⟨rfl, rfl⟩
  · exact .inl ⟨rfl, rfl⟩

end Sys2Proof.Machine
end

