-- ==== Sys2Proof/Laws/Exec.lean ====
section
/-! SUPPORT. What one instruction can do, said once: an inversion of `exec` from which invariants are derived. -/

namespace Sys2Proof.Machine

/-- What an instruction may do to memory. -/
def MemStep (s : State) (m : Memory) : Prop :=
  s.mem.len ≤ m.len ∧ (s.mem.wf = true → m.wf = true) ∧ (s.mem.len ≤ s.cfg.memLimit → m.len ≤ s.cfg.memLimit)

theorem MemStep.refl (s : State) : MemStep s s.mem := ⟨le_rfl, id, id⟩

theorem MemStep.ensure {s : State} {off len : Nat} {m : Memory} (h : s.mem.ensure s.cfg.memLimit off len = some m) :
    MemStep s m :=
  let ⟨_, h1, _, h2, h3⟩ := ensure_spec h
  ⟨h1, h2, h3 (memLimit_mod _)⟩

theorem MemStep.store {s : State} {off : Nat} {bs : List Byte} {m : Memory}
    (h : s.mem.ensure s.cfg.memLimit off bs.length = some m) : MemStep s (m.store off bs) :=
  let ⟨_, h1, h2, h3, h4⟩ := ensure_spec h
  ⟨by simpa using h1, fun hw => store_wf (h3 hw) h2, fun hl => by simpa using h4 (memLimit_mod _) hl⟩

/-- Everything an instruction of length `n` can do: end the run with success, fail with some of its operands popped, or
go on with a new stack, memory and pc. Nothing else of the state changes. From a stack within its bound the new stack
is within it, and a failure leaves memory as it was (above the bound, which no run reaches, the push after a memory
access can overflow). -/
inductive Does (s : State) (n : Nat) : StepOut → Prop
  | halts : Does s n (.next (halt s))
  | fails (k : FailureKind) (st : List Word) (m : Memory) (hst : st <:+ s.stack) (hm : MemStep s m)
      (hs : s.stack.length ≤ 1024 → m = s.mem) : Does s n (.next (raise k { s with stack := st, mem := m }))
  | goes (st : List Word) (m : Memory) (p : Nat) (hst : s.stack.length ≤ 1024 → st.length ≤ 1024) (hm : MemStep s m)
      (hp : p = s.pc + n ∨ ∃ w, s.validTarget w = true ∧ p = w.toNat) :
      Does s n (.next { s with stack := st, mem := m, pc := p })

theorem Does.failsPopped {s : State} (n : Nat) (k : FailureKind) {st : List Word} (h : st <:+ s.stack) :
    Does s n (.next (raise k { s with stack := st })) :=
  .fails k st s.mem h (MemStep.refl s) fun _ => rfl

theorem Does.failsHere (s : State) (n : Nat) (k : FailureKind) : Does s n (.next (raise k s)) :=
  .failsPopped n k (List.suffix_refl _)

theorem Does.goesOn {s : State} (n : Nat) {st : List Word} (hst : s.stack.length ≤ 1024 → st.length ≤ 1024) :
    Does s n (.next { s with stack := st, pc := s.pc + n }) :=
  .goes st s.mem _ hst (MemStep.refl s) (.inl rfl)

/-- A push that ends an instruction which popped down to `st` and left memory `m`. -/
theorem Does.pushes {s : State} (n : Nat) (w : Word) {st : List Word} {m : Memory} (h : st <:+ s.stack)
    (hm : MemStep s m) (hs : m = s.mem ∨ st.length < s.stack.length) :
    Does s n (push w { s with stack := st, mem := m } (advance n)) := by
  rcases push_cases w { s with stack := st, mem := m } (advance n) with ⟨hl, e⟩ | ⟨hl, e⟩ <;> rw [e]
  · exact .goes _ m _ (fun _ => hl) hm (.inl rfl)
  · refine .fails _ st m h hm fun hb => hs.resolve_right ?_
    dsimp only at hl
    omega

theorem pushHere_does (s : State) (n : Nat) (w : Word) : Does s n (push w s (advance n)) :=
  Does.pushes n w (List.suffix_refl _) (MemStep.refl s) (.inl rfl)

theorem suffix_one {st rest : List Word} {a : Word} (h : st = a :: rest) : rest <:+ st := h ▸ List.suffix_cons _ _

theorem suffix_two {st rest : List Word} {a b : Word} (h : st = a :: b :: rest) : rest <:+ st :=
  (List.suffix_cons b rest).trans (suffix_one h)

theorem suffix_three {st rest : List Word} {a b c : Word} (h : st = a :: b :: c :: rest) : rest <:+ st :=
  (List.suffix_cons c rest).trans (suffix_two h)

theorem unary_does (f : Word → Word) (s : State) : Does s 1 (unary f s) := by
  rcases pop1_cases s (fun a s => push (f a) s (advance 1)) with ⟨a, rest, h, e⟩ | ⟨_, e⟩ <;> rw [unary, e]
  · exact Does.pushes 1 _ (suffix_one h) (MemStep.refl s) (.inl rfl)
  · exact Does.failsHere s 1 _

theorem binary_does (f : Word → Word → Word) (s : State) : Does s 1 (binary f s) := by
  rcases pop2_cases s (fun a b s => push (f a b) s (advance 1)) with ⟨a, b, rest, h, e⟩ | ⟨_, e⟩ <;> rw [binary, e]
  · exact Does.pushes 1 _ (suffix_two h) (MemStep.refl s) (.inl rfl)
  · exact Does.failsHere s 1 _

theorem ternary_does (f : Word → Word → Word → Word) (s : State) : Does s 1 (ternary f s) := by
  rcases pop3_cases s (fun a b n s => push (f a b n) s (advance 1)) with ⟨a, b, c, rest, h, e⟩ | ⟨_, e⟩ <;>
    rw [ternary, e]
  · exact Does.pushes 1 _ (suffix_three h) (MemStep.refl s) (.inl rfl)
  · exact Does.failsHere s 1 _

theorem pop_does (s : State) : Does s 1 (execPop s) := by
  rcases pop1_cases s (fun _ s => advance 1 s) with ⟨a, rest, h, e⟩ | ⟨_, e⟩ <;> rw [execPop, e]
  · exact Does.goesOn 1 fun hs => (suffix_one h).length_le.trans hs
  · exact Does.failsHere s 1 _

theorem dupTop_does {n : Nat} (hn : 1 ≤ n) (s : State) : Does s 1 (dupTop n s) := by
  rcases peek_cases hn s (fun w => push w s (advance 1)) with ⟨w, _, _, e⟩ | ⟨_, _, e⟩ <;> rw [dupTop, e]
  · exact pushHere_does s 1 w
  · exact Does.failsHere s 1 _

theorem swapTop_does (n : Nat) (s : State) : Does s 1 (swapTop n s) := by
  rcases exchange_cases n s (advance 1) with ⟨t, w, _, _, _, e⟩ | ⟨_, e⟩ <;> rw [swapTop, e]
  · exact Does.goesOn 1 (by simp)
  · exact Does.failsHere s 1 _

theorem context_does (p : Bool) (r : CtxReg) (s : State) : Does s 1 (pushContext p r s) := by
  rcases pushContext_cases p r s with ⟨_, e⟩ | ⟨_, e⟩ <;> rw [e]
  · exact pushHere_does s 1 _
  · exact Does.failsHere s 1 _

theorem jumpTo_does {s : State} (t : Word) {st : List Word} (h : st <:+ s.stack) :
    Does s 1 (jumpTo t { s with stack := st }) := by
  rcases jumpTo_cases t { s with stack := st } with ⟨hv, e⟩ | ⟨_, e⟩ <;> rw [e]
  · exact .goes st s.mem _ h.length_le.trans (MemStep.refl s) (.inr ⟨t, hv, rfl⟩)
  · exact .failsPopped 1 _ h

theorem jump_does (s : State) : Does s 1 (execJump s) := by
  rcases pop1_cases s jumpTo with ⟨a, rest, h, e⟩ | ⟨_, e⟩ <;> rw [execJump, e]
  · exact jumpTo_does a (suffix_one h)
  · exact Does.failsHere s 1 _

theorem jumpi_does (s : State) : Does s 1 (execJumpi s) := by
  rcases pop2_cases s (fun t c s => if conditionHolds c then jumpTo t s else advance 1 s) with
    ⟨a, b, rest, h, e⟩ | ⟨_, e⟩ <;> rw [execJumpi, e]
  · split
    · exact jumpTo_does a (suffix_two h)
    · exact Does.goesOn 1 (suffix_two h).length_le.trans
  · exact Does.failsHere s 1 _

theorem mload_does (s : State) : Does s 1 (execMload s) := by
  rcases pop1_cases s (fun off s => memRead off.toNat 32 s fun bytes s => push (bytesWord bytes) s (advance 1)) with
    ⟨a, rest, h, e⟩ | ⟨_, e⟩ <;> rw [execMload, e]
  · rw [memRead_eq]
    rcases memEnsure_cases a.toNat 32 { s with stack := rest }
      (fun s => push (bytesWord (s.mem.slice a.toNat 32)) s (advance 1)) with ⟨m, hm, e⟩ | ⟨_, _, e⟩ <;> rw [e]
    · exact Does.pushes 1 _ (suffix_one h) (.ensure hm) (.inr (by simp [h]))
    · exact .failsPopped 1 _ (suffix_one h)
  · exact Does.failsHere s 1 _

theorem keccak256_does (s : State) : Does s 1 (execKeccak256 s) := by
  rcases pop2_cases s (fun off len s => memRead off.toNat len.toNat s fun bytes s =>
    push (bytesWord (Keccak.digest bytes)) s (advance 1)) with ⟨a, b, rest, h, e⟩ | ⟨_, e⟩ <;> rw [execKeccak256, e]
  · rw [memRead_eq]
    rcases memEnsure_cases a.toNat b.toNat { s with stack := rest }
      (fun s => push (bytesWord (Keccak.digest (s.mem.slice a.toNat b.toNat))) s (advance 1)) with
      ⟨m, hm, e⟩ | ⟨_, _, e⟩ <;> rw [e]
    · exact Does.pushes 1 _ (suffix_two h) (.ensure hm) (.inr (by simp [h]))
    · exact .failsPopped 1 _ (suffix_two h)
  · exact Does.failsHere s 1 _

/-- A store of `bytes v` at the offset popped first (MSTORE, MSTORE8). -/
theorem store_does (bytes : Word → List Byte) (s : State) :
    Does s 1 (pop2 s fun off v s => memWrite off.toNat (bytes v) s (advance 1)) := by
  rcases pop2_cases s (fun off v s => memWrite off.toNat (bytes v) s (advance 1)) with
    ⟨a, b, rest, h, e⟩ | ⟨_, e⟩ <;> rw [e]
  · rw [memWrite_eq]
    rcases memEnsure_cases a.toNat (bytes b).length { s with stack := rest }
      (fun s => advance 1 { s with mem := s.mem.store a.toNat (bytes b) }) with ⟨m, hm, e⟩ | ⟨_, _, e⟩ <;> rw [e]
    · exact .goes rest _ _ (suffix_two h).length_le.trans (.store hm) (.inl rfl)
    · exact .failsPopped 1 _ (suffix_two h)
  · exact Does.failsHere s 1 _

theorem pushImm_does {i : Instr} {n : Nat} (imm : Word) (s : State)
    (hl : i.length = 1 + n) : Does s i.length (pushImm n imm s) := hl ▸ pushHere_does s (1 + n) imm

/-- The inversion of `exec`: in every state, every instruction does one of the things `Does` lists. -/
theorem exec_does (i : Instr) (s : State) : Does s i.length (exec i s) :=
  match i with
  | .stop => Does.halts
  | .add => binary_does _ s
  | .mul => binary_does _ s
  | .sub => binary_does _ s
  | .div => binary_does _ s
  | .sdiv => binary_does _ s
  | .mod => binary_does _ s
  | .smod => binary_does _ s
  | .addmod => ternary_does _ s
  | .mulmod => ternary_does _ s
  | .exp => binary_does _ s
  | .signextend => binary_does _ s
  | .unassigned0C => Does.halts
  | .unassigned0D => Does.halts
  | .unassigned0E => Does.halts
  | .unassigned0F => Does.halts
  | .lt => binary_does _ s
  | .gt => binary_does _ s
  | .slt => binary_does _ s
  | .sgt => binary_does _ s
  | .eq => binary_does _ s
  | .iszero => unary_does _ s
  | .and => binary_does _ s
  | .or => binary_does _ s
  | .xor => binary_does _ s
  | .not => unary_does _ s
  | .byte => binary_does _ s
  | .shl => binary_does _ s
  | .shr => binary_does _ s
  | .sar => binary_does _ s
  | .unassigned1E => Does.halts
  | .unassigned1F => Does.halts
  | .keccak256 => keccak256_does s
  | .unassigned21 => Does.halts
  | .unassigned22 => Does.halts
  | .unassigned23 => Does.halts
  | .unassigned24 => Does.halts
  | .unassigned25 => Does.halts
  | .unassigned26 => Does.halts
  | .unassigned27 => Does.halts
  | .unassigned28 => Does.halts
  | .unassigned29 => Does.halts
  | .unassigned2A => Does.halts
  | .unassigned2B => Does.halts
  | .unassigned2C => Does.halts
  | .unassigned2D => Does.halts
  | .unassigned2E => Does.halts
  | .unassigned2F => Does.halts
  | .address => context_does _ _ s
  | .unassigned31 => Does.halts
  | .origin => context_does _ _ s
  | .caller => context_does _ _ s
  | .unassigned34 => Does.halts
  | .unassigned35 => Does.halts
  | .unassigned36 => Does.halts
  | .unassigned37 => Does.halts
  | .unassigned38 => Does.halts
  | .unassigned39 => Does.halts
  | .gasprice => context_does _ _ s
  | .unassigned3B => Does.halts
  | .unassigned3C => Does.halts
  | .unassigned3D => Does.halts
  | .unassigned3E => Does.halts
  | .unassigned3F => Does.halts
  | .unassigned40 => Does.halts
  | .coinbase => context_does _ _ s
  | .timestamp => context_does _ _ s
  | .number => context_does _ _ s
  | .difficulty => context_does _ _ s
  | .gaslimit => context_does _ _ s
  | .chainid => context_does _ _ s
  | .unassigned47 => Does.halts
  | .basefee => context_does _ _ s
  | .unassigned49 => Does.halts
  | .unassigned4A => Does.halts
  | .unassigned4B => Does.halts
  | .unassigned4C => Does.halts
  | .unassigned4D => Does.halts
  | .unassigned4E => Does.halts
  | .unassigned4F => Does.halts
  | .pop => pop_does s
  | .mload => mload_does s
  | .mstore => store_does wordBytes s
  | .mstore8 => store_does (fun v => [v.setWidth 8]) s
  | .unassigned54 => Does.halts
  | .unassigned55 => Does.halts
  | .jump => jump_does s
  | .jumpi => jumpi_does s
  | .pc => pushHere_does s 1 _
  | .msize => pushHere_does s 1 _
  | .gas => pushHere_does s 1 _
  | .jumpdest => Does.goesOn 1 id
  | .unassigned5C => Does.halts
  | .unassigned5D => Does.halts
  | .unassigned5E => Does.halts
  | .unassigned5F => Does.halts
  | .push1 imm => pushImm_does imm s rfl
  | .push2 imm => pushImm_does imm s rfl
  | .push3 imm => pushImm_does imm s rfl
  | .push4 imm => pushImm_does imm s rfl
  | .push5 imm => pushImm_does imm s rfl
  | .push6 imm => pushImm_does imm s rfl
  | .push7 imm => pushImm_does imm s rfl
  | .push8 imm => pushImm_does imm s rfl
  | .push9 imm => pushImm_does imm s rfl
  | .push10 imm => pushImm_does imm s rfl
  | .push11 imm => pushImm_does imm s rfl
  | .push12 imm => pushImm_does imm s rfl
  | .push13 imm => pushImm_does imm s rfl
  | .push14 imm => pushImm_does imm s rfl
  | .push15 imm => pushImm_does imm s rfl
  | .push16 imm => pushImm_does imm s rfl
  | .push17 imm => pushImm_does imm s rfl
  | .push18 imm => pushImm_does imm s rfl
  | .push19 imm => pushImm_does imm s rfl
  | .push20 imm => pushImm_does imm s rfl
  | .push21 imm => pushImm_does imm s rfl
  | .push22 imm => pushImm_does imm s rfl
  | .push23 imm => pushImm_does imm s rfl
  | .push24 imm => pushImm_does imm s rfl
  | .push25 imm => pushImm_does imm s rfl
  | .push26 imm => pushImm_does imm s rfl
  | .push27 imm => pushImm_does imm s rfl
  | .push28 imm => pushImm_does imm s rfl
  | .push29 imm => pushImm_does imm s rfl
  | .push30 imm => pushImm_does imm s rfl
  | .push31 imm => pushImm_does imm s rfl
  | .push32 imm => pushImm_does imm s rfl
  | .dup1 => dupTop_does (by decide) s
  | .dup2 => dupTop_does (by decide) s
  | .dup3 => dupTop_does (by decide) s
  | .dup4 => dupTop_does (by decide) s
  | .dup5 => dupTop_does (by decide) s
  | .dup6 => dupTop_does (by decide) s
  | .dup7 => dupTop_does (by decide) s
  | .dup8 => dupTop_does (by decide) s
  | .dup9 => dupTop_does (by decide) s
  | .dup10 => dupTop_does (by decide) s
  | .dup11 => dupTop_does (by decide) s
  | .dup12 => dupTop_does (by decide) s
  | .dup13 => dupTop_does (by decide) s
  | .dup14 => dupTop_does (by decide) s
  | .dup15 => dupTop_does (by decide) s
  | .dup16 => dupTop_does (by decide) s
  | .swap1 => swapTop_does _ s
  | .swap2 => swapTop_does _ s
  | .swap3 => swapTop_does _ s
  | .swap4 => swapTop_does _ s
  | .swap5 => swapTop_does _ s
  | .swap6 => swapTop_does _ s
  | .swap7 => swapTop_does _ s
  | .swap8 => swapTop_does _ s
  | .swap9 => swapTop_does _ s
  | .swap10 => swapTop_does _ s
  | .swap11 => swapTop_does _ s
  | .swap12 => swapTop_does _ s
  | .swap13 => swapTop_does _ s
  | .swap14 => swapTop_does _ s
  | .swap15 => swapTop_does _ s
  | .swap16 => swapTop_does _ s
  | .unassignedA0 => Does.halts
  | .unassignedA1 => Does.halts
  | .unassignedA2 => Does.halts
  | .unassignedA3 => Does.halts
  | .unassignedA4 => Does.halts
  | .unassignedA5 => Does.halts
  | .unassignedA6 => Does.halts
  | .unassignedA7 => Does.halts
  | .unassignedA8 => Does.halts
  | .unassignedA9 => Does.halts
  | .unassignedAA => Does.halts
  | .unassignedAB => Does.halts
  | .unassignedAC => Does.halts
  | .unassignedAD => Does.halts
  | .unassignedAE => Does.halts
  | .unassignedAF => Does.halts
  | .unassignedB0 => Does.halts
  | .unassignedB1 => Does.halts
  | .unassignedB2 => Does.halts
  | .unassignedB3 => Does.halts
  | .unassignedB4 => Does.halts
  | .unassignedB5 => Does.halts
  | .unassignedB6 => Does.halts
  | .unassignedB7 => Does.halts
  | .unassignedB8 => Does.halts
  | .unassignedB9 => Does.halts
  | .unassignedBA => Does.halts
  | .unassignedBB => Does.halts
  | .unassignedBC => Does.halts
  | .unassignedBD => Does.halts
  | .unassignedBE => Does.halts
  | .unassignedBF => Does.halts
  | .unassignedC0 => Does.halts
  | .unassignedC1 => Does.halts
  | .unassignedC2 => Does.halts
  | .unassignedC3 => Does.halts
  | .unassignedC4 => Does.halts
  | .unassignedC5 => Does.halts
  | .unassignedC6 => Does.halts
  | .unassignedC7 => Does.halts
  | .unassignedC8 => Does.halts
  | .unassignedC9 => Does.halts
  | .unassignedCA => Does.halts
  | .unassignedCB => Does.halts
  | .unassignedCC => Does.halts
  | .unassignedCD => Does.halts
  | .unassignedCE => Does.halts
  | .unassignedCF => Does.halts
  | .unassignedD0 => Does.halts
  | .unassignedD1 => Does.halts
  | .unassignedD2 => Does.halts
  | .unassignedD3 => Does.halts
  | .unassignedD4 => Does.halts
  | .unassignedD5 => Does.halts
  | .unassignedD6 => Does.halts
  | .unassignedD7 => Does.halts
  | .unassignedD8 => Does.halts
  | .unassignedD9 => Does.halts
  | .unassignedDA => Does.halts
  | .unassignedDB => Does.halts
  | .unassignedDC => Does.halts
  | .unassignedDD => Does.halts
  | .unassignedDE => Does.halts
  | .unassignedDF => Does.halts
  | .unassignedE0 => Does.halts
  | .unassignedE1 => Does.halts
  | .unassignedE2 => Does.halts
  | .unassignedE3 => Does.halts
  | .unassignedE4 => Does.halts
  | .unassignedE5 => Does.halts
  | .unassignedE6 => Does.halts
  | .unassignedE7 => Does.halts
  | .unassignedE8 => Does.halts
  | .unassignedE9 => Does.halts
  | .unassignedEA => Does.halts
  | .unassignedEB => Does.halts
  | .unassignedEC => Does.halts
  | .unassignedED => Does.halts
  | .unassignedEE => Does.halts
  | .unassignedEF => Does.halts
  | .unassignedF0 => Does.halts
  | .unassignedF1 => Does.halts
  | .unassignedF2 => Does.halts
  | .unassignedF3 => Does.halts
  | .unassignedF4 => Does.halts
  | .unassignedF5 => Does.halts
  | .unassignedF6 => Does.halts
  | .unassignedF7 => Does.halts
  | .unassignedF8 => Does.halts
  | .unassignedF9 => Does.halts
  | .unassignedFA => Does.halts
  | .unassignedFB => Does.halts
  | .unassignedFC => Does.halts
  | .unassignedFD => Does.halts
  | .invalid => Does.failsHere s 1 _
  | .unassignedFF => Does.halts

end Sys2Proof.Machine
end

