-- ==== Sys2Proof/Laws/Keccak.lean ====
section
/-! SUPPORT. The digest: lanes and their bytes, lengths, and one absorbed block lane by lane (44_memory_hash.md R266 to
R269). -/

namespace Sys2Proof.Machine.Keccak

/-- A lane reads as its bytes, byte `j` weighing `256^j` (R266). -/
theorem laneOfBytes_cons_toNat (b : Byte) (bs : List Byte) (h : bs.length < 8) :
    (laneOfBytes (b :: bs)).toNat = b.toNat + 256 * (laneOfBytes bs).toNat ∧
      (laneOfBytes bs).toNat < 256 ^ bs.length := by
  induction bs generalizing b with
  | nil => have := b.isLt; simp [laneOfBytes]; omega
  | cons c cs ih =>
    simp only [List.length_cons] at h
    obtain ⟨h1, h2⟩ := ih c (by omega)
    have hlt : (laneOfBytes (c :: cs)).toNat < 256 ^ (cs.length + 1) := by
      have := c.isLt
      rw [h1, pow_succ]
      omega
    refine ⟨?_, hlt⟩
    have hpow : 256 ^ (cs.length + 1) ≤ 2 ^ 56 := by
      calc 256 ^ (cs.length + 1) ≤ 256 ^ 7 := Nat.pow_le_pow_right (by norm_num) (by omega)
        _ = 2 ^ 56 := by norm_num
    have hb := b.isLt
    have hor := Nat.shiftLeft_add_eq_or_of_lt hb (laneOfBytes (c :: cs)).toNat
    rw [Nat.shiftLeft_eq] at hor
    change ((laneOfBytes (c :: cs)) <<< 8 ||| b.setWidth 64).toNat = _
    rw [BitVec.toNat_or, BitVec.toNat_shiftLeft, BitVec.toNat_setWidth, Nat.shiftLeft_eq,
      Nat.mod_eq_of_lt (by omega), Nat.mod_eq_of_lt (by omega), ← hor]
    omega

@[simp] theorem build_length (f : Nat → Nat → Lane) : (build f).length = 25 := by simp [build]

theorem round_length (A : List Lane) (rc : Lane) : (round A rc).length = 25 := by
  have h : (chi (rhoPi (theta A))).length = 25 := by simp [chi]
  rw [round]
  match hc : chi (rhoPi (theta A)) with
  | [] => simp [hc] at h
  | a :: rest => simpa [iota, hc] using h

theorem permute_length (A : List Lane) (h : A.length = 25) : (permute A).length = 25 := by
  rw [permute]
  generalize roundConstants = rcs
  induction rcs generalizing A with
  | nil => exact h
  | cons c cs ih => exact ih _ (round_length A c)

@[simp] theorem lanesOfBytes_length (n : Nat) (bs : List Byte) : (lanesOfBytes n bs).length = n := by
  induction n generalizing bs with
  | zero => rfl
  | succ n ih => simp [lanesOfBytes, ih]

theorem lanesOfBytes_getElem? {n i : Nat} (bs : List Byte) (h : i < n) :
    (lanesOfBytes n bs)[i]? = some (laneOfBytes ((bs.drop (8 * i)).take 8)) := by
  induction n generalizing bs i with
  | zero => omega
  | succ n ih =>
    cases i with
    | zero => simp [lanesOfBytes]
    | succ i =>
      rw [lanesOfBytes, List.getElem?_cons_succ, ih _ (by omega), List.drop_drop]
      congr 4
      omega

/-- What a block is exclusive-ored with: its 17 lanes, and zero for the other 8 (R269). -/
theorem absorbBlock_eq (A : List Lane) (block : List Byte) (h : A.length = 25) :
    absorbBlock A block = permute ((List.range 25).map fun i =>
      A.getD i 0 ^^^ (if i < 17 then laneOfBytes ((block.drop (8 * i)).take 8) else 0)) := by
  rw [absorbBlock]
  congr 1
  apply List.ext_getElem?
  intro i
  by_cases hi : i < 25
  · by_cases h17 : i < 17
    · rw [List.getElem?_zipWith, List.getElem?_append_left (by simpa using h17), lanesOfBytes_getElem? block h17]
      simp [h, hi, h17]
    · rw [List.getElem?_zipWith, List.getElem?_append_right (by simp; omega), List.getElem?_replicate]
      simp [h, hi, h17, show i - 17 < 8 by omega]
  · simp [h, hi]

theorem absorb_length (n : Nat) (A : List Lane) (bs : List Byte) (h : A.length = 25) : (absorb n A bs).length = 25 := by
  induction n generalizing A bs with
  | zero => exact h
  | succ n ih => exact ih _ _ (by rw [absorbBlock_eq _ _ h]; exact permute_length _ (by simp))

/-- The state when a block more is absorbed, the last one. -/
theorem absorb_succ (n : Nat) (A : List Lane) (bs : List Byte) :
    absorb (n + 1) A bs = absorbBlock (absorb n A bs) ((bs.drop (rate * n)).take rate) := by
  induction n generalizing A bs with
  | zero => simp [absorb]
  | succ n ih => rw [absorb, ih, List.drop_drop, absorb, show rate + rate * n = rate * (n + 1) by ring]

@[simp] theorem digest_length (msg : List Byte) : (digest msg).length = 32 := by
  have h := absorb_length (msg.length / rate + 1) zeroState (msg ++ padding msg.length) rfl
  simp only [digest]
  generalize absorb _ _ _ = A at h ⊢
  match A, h with
  | _ :: _ :: _ :: _ :: _, _ => simp [laneBytes]

end Sys2Proof.Machine.Keccak
end

