-- ==== Sys2Proof/Laws/Program.lean ====
section
/-! SUPPORT. The construction-time scan: what the offsets it visits are. -/

namespace Sys2Proof.Machine

theorem opcodeOffsetsFrom_skip (bs : List Byte) (off skip : Nat) :
    opcodeOffsetsFrom bs off skip = opcodeOffsetsFrom (bs.drop skip) (off + skip) 0 := by
  induction skip generalizing bs off with
  | zero => simp
  | succ skip ih =>
    cases bs with
    | nil => simp [opcodeOffsetsFrom]
    | cons b bs => simp [opcodeOffsetsFrom, ih, Nat.add_assoc, Nat.add_comm 1 skip]

theorem validFrom_skip (bs : List Byte) (off skip : Nat) :
    validFrom bs off skip = validFrom (bs.drop skip) (off + skip) 0 := by
  induction skip generalizing bs off with
  | zero => simp
  | succ skip ih =>
    cases bs with
    | nil => simp [validFrom]
    | cons b bs => simp [validFrom, ih, Nat.add_assoc, Nat.add_comm 1 skip]

/-- The scan at a cursor standing on an opcode: that offset, then the scan after the whole instruction (R120). -/
theorem opcodeOffsetsFrom_cons (b : Byte) (bs : List Byte) (off : Nat) :
    opcodeOffsetsFrom (b :: bs) off 0 = off :: opcodeOffsetsFrom (bs.drop (immLen b)) (off + opLen b) 0 := by
  rw [opcodeOffsetsFrom, opcodeOffsetsFrom_skip, opLen, Nat.add_assoc]

theorem validFrom_cons (b : Byte) (bs : List Byte) (off : Nat) :
    validFrom (b :: bs) off 0 =
      (if b = jumpdestByte then [off] else []) ++ validFrom (bs.drop (immLen b)) (off + opLen b) 0 := by
  rw [validFrom, validFrom_skip, opLen, Nat.add_assoc]
  split <;> rfl

theorem le_of_mem_opcodeOffsetsFrom {bs : List Byte} {off skip i : Nat} (h : i ∈ opcodeOffsetsFrom bs off skip) :
    off + skip ≤ i ∧ i < off + bs.length := by
  induction bs generalizing off skip with
  | nil => simp [opcodeOffsetsFrom] at h
  | cons b bs ih =>
    cases skip with
    | zero =>
      rcases List.mem_cons.1 h with rfl | h
      · simp
      · have := ih h; simp only [List.length_cons]; omega
    | succ skip => have := ih h; simp only [List.length_cons]; omega

/-- A valid destination is an offset the scan visited whose byte is the marker. -/
theorem mem_validFrom {bs : List Byte} {off skip i : Nat} :
    i ∈ validFrom bs off skip ↔ i ∈ opcodeOffsetsFrom bs off skip ∧ bs[i - off]? = some jumpdestByte := by
  induction bs generalizing off skip with
  | nil => simp [validFrom, opcodeOffsetsFrom]
  | cons b bs ih =>
    have key : ∀ {k}, i ∈ opcodeOffsetsFrom bs (off + 1) k → (b :: bs)[i - off]? = bs[i - (off + 1)]? := by
      intro k h
      have := (le_of_mem_opcodeOffsetsFrom h).1
      obtain ⟨d, rfl⟩ := Nat.exists_eq_add_of_le (show off + 1 ≤ i by omega)
      rw [show off + 1 + d - off = d + 1 by omega, show off + 1 + d - (off + 1) = d by omega]
      simp
    cases skip with
    | zero =>
      simp only [validFrom, opcodeOffsetsFrom, List.mem_cons]
      split
      · rename_i hb
        rw [List.mem_cons, ih]
        constructor
        · rintro (rfl | ⟨h1, h2⟩)
          · exact ⟨.inl rfl, by simp [hb]⟩
          · exact ⟨.inr h1, by rw [key h1]; exact h2⟩
        · rintro ⟨rfl | h1, h2⟩
          · exact .inl rfl
          · exact .inr ⟨h1, by rw [← key h1]; exact h2⟩
      · rename_i hb
        rw [ih]
        constructor
        · rintro ⟨h1, h2⟩; exact ⟨.inr h1, by rw [key h1]; exact h2⟩
        · rintro ⟨rfl | h1, h2⟩
          · simp at h2; exact absurd h2 hb
          · exact ⟨h1, by rw [← key h1]; exact h2⟩
    | succ skip =>
      simp only [validFrom, opcodeOffsetsFrom, ih]
      constructor
      · rintro ⟨h1, h2⟩; exact ⟨h1, by rw [key h1]; exact h2⟩
      · rintro ⟨h1, h2⟩; exact ⟨h1, by rw [← key h1]; exact h2⟩

/-- After a visited offset the scan visits the offset one instruction further, if it is inside the program (R98). -/
theorem next_mem_opcodeOffsetsFrom {bs : List Byte} {off i : Nat} {b : Byte} (h : i ∈ opcodeOffsetsFrom bs off 0)
    (hb : bs[i - off]? = some b) (hlt : i + opLen b < off + bs.length) : i + opLen b ∈ opcodeOffsetsFrom bs off 0 := by
  induction hn : bs.length using Nat.strong_induction_on generalizing bs off with
  | _ n ih =>
  cases bs with
  | nil => simp [opcodeOffsetsFrom] at h
  | cons c cs =>
    rw [opcodeOffsetsFrom_cons] at h ⊢
    simp only [List.length_cons] at hlt hn
    rcases List.mem_cons.1 h with rfl | h
    · simp only [Nat.sub_self, List.getElem?_cons_zero, Option.some.injEq] at hb
      subst hb
      refine List.mem_cons_of_mem _ ?_
      have hl : opLen c = 1 + immLen c := rfl
      cases hd : cs.drop (immLen c) with
      | nil => have := List.drop_eq_nil_iff.1 hd; omega
      | cons d ds => rw [opcodeOffsetsFrom_cons]; exact List.mem_cons_self
    · have hr := le_of_mem_opcodeOffsetsFrom h
      have hl : opLen c = 1 + immLen c := rfl
      refine List.mem_cons_of_mem _ (ih _ (by simp; omega) h ?_ ?_ rfl)
      · rw [List.getElem?_drop]
        rw [show i - off = (immLen c + (i - (off + opLen c))) + 1 by omega] at hb
        simpa using hb
      · have : immLen c ≤ cs.length := by
          simp only [List.length_drop] at hr; omega
        simp only [List.length_drop] at hr ⊢
        omega

/-- Between a visited offset and the next instruction the scan visits none: immediate bytes are never opcodes (R98). -/
theorem not_mem_opcodeOffsetsFrom_between {bs : List Byte} {off i : Nat} {b : Byte} (h : i ∈ opcodeOffsetsFrom bs off 0) (hb : bs[i - off]? = some b) :
    ∀ j, i < j → j < i + opLen b → j ∉ opcodeOffsetsFrom bs off 0 := by
  induction hn : bs.length using Nat.strong_induction_on generalizing bs off with
  | _ n ih =>
  cases bs with
  | nil => simp [opcodeOffsetsFrom] at h
  | cons c cs =>
    intro j h1 h2 hj
    rw [opcodeOffsetsFrom_cons] at h hj
    simp only [List.length_cons] at hn
    have hl : opLen c = 1 + immLen c := rfl
    rcases List.mem_cons.1 h with rfl | h
    · simp at hb; subst hb
      rcases List.mem_cons.1 hj with rfl | hj
      · omega
      · have := le_of_mem_opcodeOffsetsFrom hj; omega
    · have hr := le_of_mem_opcodeOffsetsFrom h
      rcases List.mem_cons.1 hj with rfl | hj
      · omega
      · refine ih _ (by simp; omega) h ?_ rfl j h1 h2 hj
        rw [List.getElem?_drop]
        rw [show i - off = (immLen c + (i - (off + opLen c))) + 1 by omega] at hb
        simpa using hb

end Sys2Proof.Machine
end

