-- ==== Sys2Proof/Machine/Assembler.lean ====
section
/-! DEFINITION. The notation programs are written in (30_encoding.md R99): mnemonics in upper case, a PUSH followed by its
immediate in decimal or, with the prefix `0x`, in hexadecimal; one instruction per list element, or one per line with `;`
starting a comment. It stands beside the machine: no step uses it (log 8). -/

namespace Sys2Proof.Machine

/-- A digit below `base`. Letters are read in either case. -/
def digitValue (base : Nat) (c : Char) : Option Nat :=
  let d : Option Nat :=
    if '0' ≤ c ∧ c ≤ '9' then some (c.toNat - '0'.toNat)
    else if 'a' ≤ c ∧ c ≤ 'f' then some (c.toNat - 'a'.toNat + 10)
    else if 'A' ≤ c ∧ c ≤ 'F' then some (c.toNat - 'A'.toNat + 10)
    else none
  d.filter (· < base)

/-- The number a sequence of digits stands for, after the digits that gave `acc`. -/
def digitsValue (base : Nat) : Nat → List Char → Option Nat
  | acc, [] => some acc
  | acc, c :: cs => (digitValue base c).bind fun d => digitsValue base (acc * base + d) cs

/-- An immediate: a decimal number, or a hexadecimal one with the prefix `0x` (R99). -/
def readNumber : List Char → Option Nat
  | [] => none
  | ['0', 'x'] => none
  | '0' :: 'x' :: cs => digitsValue 16 0 cs
  | cs => digitsValue 10 0 cs

/-- The row of R94 with this mnemonic: its opcode byte. The unassigned bytes have no mnemonic in the notation. -/
def opcodeNamed (name : List Char) : Option Byte :=
  ((List.range 256).map (BitVec.ofNat 8)).find? fun op =>
    let i := decodeOp op []
    decide (i.mnemonic.toList = name) && !("UNASSIGNED_".toList.isPrefixOf name)

/-- One list element or line: a mnemonic, and for a PUSH its immediate, which "must be below `256^N`" (R99). -/
def readStatement : List (List Char) → Option (List Byte)
  | [name] => (opcodeNamed name).bind fun op => if immLen op = 0 then some [op] else none
  | [name, number] => (opcodeNamed name).bind fun op => (readNumber number).bind fun v =>
      if 0 < immLen op ∧ v < 256 ^ immLen op then some (op :: natToBytes (immLen op) v) else none
  | _ => none

/-- The words of each statement: brackets, commas and line ends separate statements, spaces separate words, and `;` starts
a comment that runs to the end of its line. `word` and `words` hold what was read of the open statement, reversed. -/
def splitStatements : Bool → List Char → List (List Char) → List Char → List (List (List Char))
  | _, word, words, [] => [((word.reverse :: words).reverse).filter (· ≠ [])]
  | inComment, word, words, c :: cs =>
    if c = '\n' ∨ (inComment = false ∧ c ∈ ['[', ']', ',']) then
      ((word.reverse :: words).reverse).filter (· ≠ []) :: splitStatements false [] [] cs
    else if inComment ∨ c = ';' then splitStatements true word words cs
    else if c = ' ' then splitStatements false [] (word.reverse :: words) cs
    else splitStatements false (c :: word) words cs

/-- The bytes of a listing in program order; none when a statement is not of the notation (R99). -/
def assembleText (text : List Char) : Option (List Byte) :=
  (((splitStatements false [] [] text).filter (· ≠ [])).mapM readStatement).map List.flatten

end Sys2Proof.Machine
end

