-- ==== Sys2Proof/Tests/Slice0.lean ====
section
/-! SUPPORT. The model's own tests. Expected values come from spec/95_test_vectors.md, and the decodings from the tables
of 30_encoding.md. Each test is one step. -/

set_option Elab.async false

namespace Sys2Proof.Tests

open Sys2Proof.Machine

/-! ## WellFormed refuses an immediate that does not fit its N bytes (30_encoding.md R99) -/

theorem test_wellFormed_refuses : [
  .push1 (natWord (256 ^ 1)), .push2 (natWord (256 ^ 2)), .push3 (natWord (256 ^ 3)), .push4 (natWord (256 ^ 4)), .push5 (natWord (256 ^ 5)), .push6 (natWord (256 ^ 6)),
  .push7 (natWord (256 ^ 7)), .push8 (natWord (256 ^ 8)), .push9 (natWord (256 ^ 9)), .push10 (natWord (256 ^ 10)), .push11 (natWord (256 ^ 11)), .push12 (natWord (256 ^ 12)),
  .push13 (natWord (256 ^ 13)), .push14 (natWord (256 ^ 14)), .push15 (natWord (256 ^ 15)), .push16 (natWord (256 ^ 16)), .push17 (natWord (256 ^ 17)), .push18 (natWord (256 ^ 18)),
  .push19 (natWord (256 ^ 19)), .push20 (natWord (256 ^ 20)), .push21 (natWord (256 ^ 21)), .push22 (natWord (256 ^ 22)), .push23 (natWord (256 ^ 23)), .push24 (natWord (256 ^ 24)),
  .push25 (natWord (256 ^ 25)), .push26 (natWord (256 ^ 26)), .push27 (natWord (256 ^ 27)), .push28 (natWord (256 ^ 28)), .push29 (natWord (256 ^ 29)), .push30 (natWord (256 ^ 30)),
  .push31 (natWord (256 ^ 31)) ].all (fun i => !WellFormed i) = true := by decide +kernel

theorem test_wellFormed_accepts : [
  .push1 (natWord (256 ^ 1 - 1)), .push2 (natWord (256 ^ 2 - 1)), .push3 (natWord (256 ^ 3 - 1)), .push4 (natWord (256 ^ 4 - 1)), .push5 (natWord (256 ^ 5 - 1)), .push6 (natWord (256 ^ 6 - 1)),
  .push7 (natWord (256 ^ 7 - 1)), .push8 (natWord (256 ^ 8 - 1)), .push9 (natWord (256 ^ 9 - 1)), .push10 (natWord (256 ^ 10 - 1)), .push11 (natWord (256 ^ 11 - 1)), .push12 (natWord (256 ^ 12 - 1)),
  .push13 (natWord (256 ^ 13 - 1)), .push14 (natWord (256 ^ 14 - 1)), .push15 (natWord (256 ^ 15 - 1)), .push16 (natWord (256 ^ 16 - 1)), .push17 (natWord (256 ^ 17 - 1)), .push18 (natWord (256 ^ 18 - 1)),
  .push19 (natWord (256 ^ 19 - 1)), .push20 (natWord (256 ^ 20 - 1)), .push21 (natWord (256 ^ 21 - 1)), .push22 (natWord (256 ^ 22 - 1)), .push23 (natWord (256 ^ 23 - 1)), .push24 (natWord (256 ^ 24 - 1)),
  .push25 (natWord (256 ^ 25 - 1)), .push26 (natWord (256 ^ 26 - 1)), .push27 (natWord (256 ^ 27 - 1)), .push28 (natWord (256 ^ 28 - 1)), .push29 (natWord (256 ^ 29 - 1)), .push30 (natWord (256 ^ 30 - 1)),
  .push31 (natWord (256 ^ 31 - 1)), .push32 (natWord (256 ^ 32 - 1)) ].all WellFormed = true := by decide +kernel

theorem test_assemble_refuses : assemble [.stop, .push1 256] = none := by decide +kernel
theorem test_assembleText : assembleText "[PUSH1 3, PUSH2 0x1, ADD]".toList = some [0x60, 3, 0x61, 0, 1, 0x01] := by
  decide +kernel
theorem test_assembleText_refuses : assembleText "PUSH1 256 ; too big
ADD".toList = none := by decide +kernel
theorem test_assemble : assemble [.push2 0x0102, .add] = some [0x61, 0x01, 0x02, 0x01] := by decide +kernel

/-- The instruction the decoder reads. -/
def decoded (bs : List Byte) : Option Instr :=
  match decode bs with
  | .ok i => some i
  | .error _ => none

/-- The bytes 01, 02, .. n. -/
def countUp (n : Nat) : List Byte := (List.range n).map fun i => BitVec.ofNat 8 (i + 1)

theorem test_decode_nothing : decode [] = .error .noOpcodeByte := rfl

/-! ## Decoding: the opcode map of 30_encoding.md R94 and R96, written out; PUSHN with the bytes 01, 02, .. N -/


theorem test_decode_row_0 : [0x00, 0x01, 0x02, 0x03, 0x04, 0x05, 0x06, 0x07, 0x08, 0x09, 0x0A, 0x0B, 0x0C, 0x0D, 0x0E,
      0x0F].map (fun b => decoded [b]) =
    [some .stop, some .add, some .mul, some .sub, some .div, some .sdiv, some .mod, some .smod, some .addmod, some
      .mulmod, some .exp, some .signextend, some .unassigned0C, some .unassigned0D, some .unassigned0E, some
      .unassigned0F] := by decide +kernel

theorem test_decode_row_1 : [0x10, 0x11, 0x12, 0x13, 0x14, 0x15, 0x16, 0x17, 0x18, 0x19, 0x1A, 0x1B, 0x1C, 0x1D, 0x1E,
      0x1F].map (fun b => decoded [b]) =
    [some .lt, some .gt, some .slt, some .sgt, some .eq, some .iszero, some .and, some .or, some .xor, some .not, some
      .byte, some .shl, some .shr, some .sar, some .unassigned1E, some .unassigned1F] := by decide +kernel

theorem test_decode_row_2 : [0x20, 0x21, 0x22, 0x23, 0x24, 0x25, 0x26, 0x27, 0x28, 0x29, 0x2A, 0x2B, 0x2C, 0x2D, 0x2E,
      0x2F].map (fun b => decoded [b]) =
    [some .keccak256, some .unassigned21, some .unassigned22, some .unassigned23, some .unassigned24, some
      .unassigned25, some .unassigned26, some .unassigned27, some .unassigned28, some .unassigned29, some
      .unassigned2A, some .unassigned2B, some .unassigned2C, some .unassigned2D, some .unassigned2E, some
      .unassigned2F] := by decide +kernel

theorem test_decode_row_3 : [0x30, 0x31, 0x32, 0x33, 0x34, 0x35, 0x36, 0x37, 0x38, 0x39, 0x3A, 0x3B, 0x3C, 0x3D, 0x3E,
      0x3F].map (fun b => decoded [b]) =
    [some .address, some .unassigned31, some .origin, some .caller, some .unassigned34, some .unassigned35, some
      .unassigned36, some .unassigned37, some .unassigned38, some .unassigned39, some .gasprice, some .unassigned3B,
      some .unassigned3C, some .unassigned3D, some .unassigned3E, some .unassigned3F] := by decide +kernel

theorem test_decode_row_4 : [0x40, 0x41, 0x42, 0x43, 0x44, 0x45, 0x46, 0x47, 0x48, 0x49, 0x4A, 0x4B, 0x4C, 0x4D, 0x4E,
      0x4F].map (fun b => decoded [b]) =
    [some .unassigned40, some .coinbase, some .timestamp, some .number, some .difficulty, some .gaslimit, some
      .chainid, some .unassigned47, some .basefee, some .unassigned49, some .unassigned4A, some .unassigned4B, some
      .unassigned4C, some .unassigned4D, some .unassigned4E, some .unassigned4F] := by decide +kernel

theorem test_decode_row_5 : [0x50, 0x51, 0x52, 0x53, 0x54, 0x55, 0x56, 0x57, 0x58, 0x59, 0x5A, 0x5B, 0x5C, 0x5D, 0x5E,
      0x5F].map (fun b => decoded [b]) =
    [some .pop, some .mload, some .mstore, some .mstore8, some .unassigned54, some .unassigned55, some .jump, some
      .jumpi, some .pc, some .msize, some .gas, some .jumpdest, some .unassigned5C, some .unassigned5D, some
      .unassigned5E, some .unassigned5F] := by decide +kernel

theorem test_decode_row_8 : [0x80, 0x81, 0x82, 0x83, 0x84, 0x85, 0x86, 0x87, 0x88, 0x89, 0x8A, 0x8B, 0x8C, 0x8D, 0x8E,
      0x8F].map (fun b => decoded [b]) =
    [some .dup1, some .dup2, some .dup3, some .dup4, some .dup5, some .dup6, some .dup7, some .dup8, some .dup9, some
      .dup10, some .dup11, some .dup12, some .dup13, some .dup14, some .dup15, some .dup16] := by decide +kernel

theorem test_decode_row_9 : [0x90, 0x91, 0x92, 0x93, 0x94, 0x95, 0x96, 0x97, 0x98, 0x99, 0x9A, 0x9B, 0x9C, 0x9D, 0x9E,
      0x9F].map (fun b => decoded [b]) =
    [some .swap1, some .swap2, some .swap3, some .swap4, some .swap5, some .swap6, some .swap7, some .swap8, some
      .swap9, some .swap10, some .swap11, some .swap12, some .swap13, some .swap14, some .swap15, some .swap16] := by
      decide +kernel

theorem test_decode_row_A : [0xA0, 0xA1, 0xA2, 0xA3, 0xA4, 0xA5, 0xA6, 0xA7, 0xA8, 0xA9, 0xAA, 0xAB, 0xAC, 0xAD, 0xAE,
      0xAF].map (fun b => decoded [b]) =
    [some .unassignedA0, some .unassignedA1, some .unassignedA2, some .unassignedA3, some .unassignedA4, some
      .unassignedA5, some .unassignedA6, some .unassignedA7, some .unassignedA8, some .unassignedA9, some
      .unassignedAA, some .unassignedAB, some .unassignedAC, some .unassignedAD, some .unassignedAE, some
      .unassignedAF] := by decide +kernel

theorem test_decode_row_B : [0xB0, 0xB1, 0xB2, 0xB3, 0xB4, 0xB5, 0xB6, 0xB7, 0xB8, 0xB9, 0xBA, 0xBB, 0xBC, 0xBD, 0xBE,
      0xBF].map (fun b => decoded [b]) =
    [some .unassignedB0, some .unassignedB1, some .unassignedB2, some .unassignedB3, some .unassignedB4, some
      .unassignedB5, some .unassignedB6, some .unassignedB7, some .unassignedB8, some .unassignedB9, some
      .unassignedBA, some .unassignedBB, some .unassignedBC, some .unassignedBD, some .unassignedBE, some
      .unassignedBF] := by decide +kernel

theorem test_decode_row_C : [0xC0, 0xC1, 0xC2, 0xC3, 0xC4, 0xC5, 0xC6, 0xC7, 0xC8, 0xC9, 0xCA, 0xCB, 0xCC, 0xCD, 0xCE,
      0xCF].map (fun b => decoded [b]) =
    [some .unassignedC0, some .unassignedC1, some .unassignedC2, some .unassignedC3, some .unassignedC4, some
      .unassignedC5, some .unassignedC6, some .unassignedC7, some .unassignedC8, some .unassignedC9, some
      .unassignedCA, some .unassignedCB, some .unassignedCC, some .unassignedCD, some .unassignedCE, some
      .unassignedCF] := by decide +kernel

theorem test_decode_row_D : [0xD0, 0xD1, 0xD2, 0xD3, 0xD4, 0xD5, 0xD6, 0xD7, 0xD8, 0xD9, 0xDA, 0xDB, 0xDC, 0xDD, 0xDE,
      0xDF].map (fun b => decoded [b]) =
    [some .unassignedD0, some .unassignedD1, some .unassignedD2, some .unassignedD3, some .unassignedD4, some
      .unassignedD5, some .unassignedD6, some .unassignedD7, some .unassignedD8, some .unassignedD9, some
      .unassignedDA, some .unassignedDB, some .unassignedDC, some .unassignedDD, some .unassignedDE, some
      .unassignedDF] := by decide +kernel

theorem test_decode_row_E : [0xE0, 0xE1, 0xE2, 0xE3, 0xE4, 0xE5, 0xE6, 0xE7, 0xE8, 0xE9, 0xEA, 0xEB, 0xEC, 0xED, 0xEE,
      0xEF].map (fun b => decoded [b]) =
    [some .unassignedE0, some .unassignedE1, some .unassignedE2, some .unassignedE3, some .unassignedE4, some
      .unassignedE5, some .unassignedE6, some .unassignedE7, some .unassignedE8, some .unassignedE9, some
      .unassignedEA, some .unassignedEB, some .unassignedEC, some .unassignedED, some .unassignedEE, some
      .unassignedEF] := by decide +kernel

theorem test_decode_row_F : [0xF0, 0xF1, 0xF2, 0xF3, 0xF4, 0xF5, 0xF6, 0xF7, 0xF8, 0xF9, 0xFA, 0xFB, 0xFC, 0xFD, 0xFE,
      0xFF].map (fun b => decoded [b]) =
    [some .unassignedF0, some .unassignedF1, some .unassignedF2, some .unassignedF3, some .unassignedF4, some
      .unassignedF5, some .unassignedF6, some .unassignedF7, some .unassignedF8, some .unassignedF9, some
      .unassignedFA, some .unassignedFB, some .unassignedFC, some .unassignedFD, some .invalid, some .unassignedFF] :=
      by decide +kernel

theorem test_decode_row_6 : (List.range 16).map (fun i => decoded (BitVec.ofNat 8 (0x60 + i) :: countUp (0 + i + 1))) =
    [some (.push1 0x1),
     some (.push2 0x102),
     some (.push3 0x10203),
     some (.push4 0x1020304),
     some (.push5 0x102030405),
     some (.push6 0x10203040506),
     some (.push7 0x1020304050607),
     some (.push8 0x102030405060708),
     some (.push9 0x10203040506070809),
     some (.push10 0x102030405060708090a),
     some (.push11 0x102030405060708090a0b),
     some (.push12 0x102030405060708090a0b0c),
     some (.push13 0x102030405060708090a0b0c0d),
     some (.push14 0x102030405060708090a0b0c0d0e),
     some (.push15 0x102030405060708090a0b0c0d0e0f),
     some (.push16 0x102030405060708090a0b0c0d0e0f10)] := by decide +kernel

theorem test_decode_row_7 : (List.range 16).map (fun i => decoded (BitVec.ofNat 8 (0x70 + i) :: countUp (16 + i + 1))) =
    [some (.push17 0x102030405060708090a0b0c0d0e0f1011),
     some (.push18 0x102030405060708090a0b0c0d0e0f101112),
     some (.push19 0x102030405060708090a0b0c0d0e0f10111213),
     some (.push20 0x102030405060708090a0b0c0d0e0f1011121314),
     some (.push21 0x102030405060708090a0b0c0d0e0f101112131415),
     some (.push22 0x102030405060708090a0b0c0d0e0f10111213141516),
     some (.push23 0x102030405060708090a0b0c0d0e0f1011121314151617),
     some (.push24 0x102030405060708090a0b0c0d0e0f101112131415161718),
     some (.push25 0x102030405060708090a0b0c0d0e0f10111213141516171819),
     some (.push26 0x102030405060708090a0b0c0d0e0f101112131415161718191a),
     some (.push27 0x102030405060708090a0b0c0d0e0f101112131415161718191a1b),
     some (.push28 0x102030405060708090a0b0c0d0e0f101112131415161718191a1b1c),
     some (.push29 0x102030405060708090a0b0c0d0e0f101112131415161718191a1b1c1d),
     some (.push30 0x102030405060708090a0b0c0d0e0f101112131415161718191a1b1c1d1e),
     some (.push31 0x102030405060708090a0b0c0d0e0f101112131415161718191a1b1c1d1e1f),
     some (.push32 0x102030405060708090a0b0c0d0e0f101112131415161718191a1b1c1d1e1f20)] := by decide +kernel

/-! ## One step -/

/-- The bytes 01 to 20, named `X` in spec/95_test_vectors.md. -/
def wordX : Word := 0x0102030405060708090a0b0c0d0e0f101112131415161718191a1b1c1d1e1f20

/-- A state at the first byte of the program, with this stack. -/
def testState (code : List Byte) (stack : List Word) : State :=
  { start ((Loaded.none resetConfig).loadCode code) with stack := stack }

/-- The state with the contexts T and B of section 7. -/
def withContext (s : State) : State :=
  let t : TxArgs := ⟨some 0x1000000000000000000000000000000000000aaa, some 0x1e79b045dc29eae9fdc69673c9dcd7c53e5e159d,
    some 0x1337, some 0x99, some 5, some [0x01], none⟩
  let b : BlkArgs := ⟨some 0x1, some 0x777, some 0xe4e1c1, some 0x1000001, some 0x20000, some 0xffffffffffff, some 0x1⟩
  let l := ((Loaded.none s.cfg).loadTx (some t)).loadBlock (some b)
  { s with tx := l.tx, blk := l.blk }

/-- `S[k]` with `k < 1` or `k > depth` does not exist (10_state.md R23). -/
theorem test_entry_range : (List.range 4).map (testState [] [7, 3]).entry = [none, some 7, some 3, none] := by decide +kernel

/-- The next state of a step. -/
def outState : StepOut → Option State
  | .next s => some s
  | .fault _ => none
  | .refused _ => none

/-- The stack, pc, STATUS and FAULT after a step. -/
def view (o : StepOut) : Option (List Word × Nat × Status × Option FailureKind) :=
  (outState o).map fun s => (s.stack, s.pc, s.status, s.fault)

/-- One step of the program on this stack. -/
def after (code : List Byte) (stack : List Word) : Option (List Word × Nat × Status × Option FailureKind) :=
  view (step (testState code stack))

/-! ## Arithmetic: spec/95_test_vectors.md section 2. The next state's stack, pc, STATUS and FAULT. -/

theorem test_add_wraps : after [0x01] [maxW, 1] = some ([0], 1, .running, none) := by decide +kernel
theorem test_mul_keeps_low_bits : after [0x02] [maxW, 2] = some ([intWord (-2)], 1, .running, none) := by
  decide +kernel
theorem test_sub_top_is_the_minuend : after [0x03] [3, 5] = some ([intWord (-2)], 1, .running, none) := by
  decide +kernel
theorem test_div_by_zero : after [0x04] [1, 0] = some ([0], 1, .running, none) := by decide +kernel
theorem test_div_is_unsigned : after [0x04] [maxW, 2] = some ([maxS], 1, .running, none) := by decide +kernel
theorem test_sdiv_truncates : after [0x05] [intWord (-7), 2] = some ([intWord (-3)], 1, .running, none) := by
  decide +kernel
theorem test_sdiv_overflow : after [0x05] [minS, maxW] = some ([minS], 1, .running, none) := by decide +kernel
theorem test_mod_is_unsigned : after [0x06] [maxW, 0xa] = some ([5], 1, .running, none) := by decide +kernel
theorem test_mod_by_zero : after [0x06] [7, 0] = some ([0], 1, .running, none) := by decide +kernel
theorem test_smod_sign_of_the_dividend : after [0x07] [intWord (-8), 3] = some ([intWord (-2)], 1, .running, none) :=
      by
  decide +kernel
theorem test_smod_negative_divisor : after [0x07] [8, intWord (-3)] = some ([2], 1, .running, none) := by
  decide +kernel
theorem test_addmod_257_bit_sum : after [0x08] [maxW, 1, 0xa] = some ([6], 1, .running, none) := by decide +kernel
theorem test_addmod_modulus_zero : after [0x08] [5, 6, 0] = some ([0], 1, .running, none) := by decide +kernel
theorem test_mulmod_512_bit_product : after [0x09] [maxW, maxW, 0xc] = some ([9], 1, .running, none) := by
  decide +kernel
theorem test_mulmod_big_modulus : after [0x09] [maxW, intWord (-2), intWord (-3)] = some ([2], 1, .running, none) :=
      by
  decide +kernel
theorem test_exp_base_on_top : after [0x0A] [3, 2] = some ([9], 1, .running, none) := by decide +kernel
theorem test_exp_large : after [0x0A] [3, maxW] = some
      ([0xaaaaaaaaaaaaaaaaaaaaaaaaaaaaaaaaaaaaaaaaaaaaaaaaaaaaaaaaaaaaaaab], 1, .running, none) := by
  decide +kernel
theorem test_signextend_clears : after [0x0B] [0, 0x17f] = some ([0x7f], 1, .running, none) := by decide +kernel
theorem test_signextend_byte_30 : after [0x0B] [0x1e,
      0x80000000000000000000000000000000000000000000000000000000000000] = some
      ([0xff80000000000000000000000000000000000000000000000000000000000000], 1, .running, none) := by
  decide +kernel
theorem test_add_underflow : after [0x01] [5] = some ([5], 0, .failed, some .stackUnderflow) := by decide +kernel
theorem test_addmod_underflow : after [0x08] [1, 2] = some ([1, 2], 0, .failed, some .stackUnderflow) := by
  decide +kernel

/-! ## Comparison, bitwise, byte, shifts: section 3 -/

theorem test_lt_is_unsigned : after [0x10] [minS, maxS] = some ([0], 1, .running, none) := by decide +kernel
theorem test_lt_top_is_the_left_operand : after [0x10] [1, 2] = some ([1], 1, .running, none) := by decide +kernel
theorem test_gt_is_unsigned : after [0x11] [minS, maxS] = some ([1], 1, .running, none) := by decide +kernel
theorem test_slt_is_signed : after [0x12] [minS, maxS] = some ([1], 1, .running, none) := by decide +kernel
theorem test_sgt_is_signed : after [0x13] [maxS, minS] = some ([1], 1, .running, none) := by decide +kernel
theorem test_sgt_equal : after [0x13] [5, 5] = some ([0], 1, .running, none) := by decide +kernel
theorem test_eq_all_bits : after [0x14] [0, minS] = some ([0], 1, .running, none) := by decide +kernel
theorem test_eq_equal : after [0x14] [maxW, maxW] = some ([1], 1, .running, none) := by decide +kernel
theorem test_and : after [0x16] [0xf0f0, 0xff00] = some ([0xf000], 1, .running, none) := by decide +kernel
theorem test_or : after [0x17] [0xf0f0, 0xff00] = some ([0xfff0], 1, .running, none) := by decide +kernel
theorem test_xor : after [0x18] [0xf0f0, 0xff00] = some ([0xff0], 1, .running, none) := by decide +kernel
theorem test_byte_zero_is_the_most_significant : after [0x1A] [0, wordX] = some ([1], 1, .running, none) := by
  decide +kernel
theorem test_byte_out_of_range : after [0x1A] [0x20, wordX] = some ([0], 1, .running, none) := by decide +kernel
theorem test_shl_by_255 : after [0x1B] [0xff, maxW] = some ([minS], 1, .running, none) := by decide +kernel
theorem test_shl_by_256 : after [0x1B] [0x100, 1] = some ([0], 1, .running, none) := by decide +kernel
theorem test_shr_zero_enters : after [0x1C] [1, maxW] = some ([maxS], 1, .running, none) := by decide +kernel
theorem test_shr_by_256 : after [0x1C] [0x100, minS] = some ([0], 1, .running, none) := by decide +kernel
theorem test_sar_floors : after [0x1D] [4, intWord (-17)] = some ([intWord (-2)], 1, .running, none) := by
  decide +kernel
theorem test_sar_by_256_negative : after [0x1D] [0x100, minS] = some ([maxW], 1, .running, none) := by decide +kernel
theorem test_iszero_of_zero : after [0x15] [0] = some ([1], 1, .running, none) := by decide +kernel
theorem test_iszero_of_minS : after [0x15] [minS] = some ([0], 1, .running, none) := by decide +kernel
theorem test_not : after [0x19] [wordX] = some ([0xfefdfcfbfaf9f8f7f6f5f4f3f2f1f0efeeedecebeae9e8e7e6e5e4e3e2e1e0df],
      1, .running, none) := by
  decide +kernel

/-! ## Stack instructions: section 4 -/

theorem test_push2_high_byte_first : after [0x61, 0x01, 0x02] [] = some ([0x102], 3, .running, none) := by
  decide +kernel
theorem test_push2_cut_off : after [0x61, 0xAB] [] = some ([0xab00], 3, .running, none) := by decide +kernel
theorem test_push1_without_immediate : after [0x60] [] = some ([0], 2, .running, none) := by decide +kernel
theorem test_push17_zero_extends : after [0x70, 0xA0, 0xA1, 0xA2, 0xA3, 0xA4, 0xA5, 0xA6, 0xA7, 0xA8, 0xA9, 0xAA,
      0xAB, 0xAC, 0xAD, 0xAE, 0xAF, 0xB0] [] = some ([0xa0a1a2a3a4a5a6a7a8a9aaabacadaeafb0], 18, .running, none) := by
  decide +kernel
theorem test_push32 : after [0x7F, 0x01, 0x02, 0x03, 0x04, 0x05, 0x06, 0x07, 0x08, 0x09, 0x0A, 0x0B, 0x0C, 0x0D, 0x0E,
      0x0F, 0x10, 0x11, 0x12, 0x13, 0x14, 0x15, 0x16, 0x17, 0x18, 0x19, 0x1A, 0x1B, 0x1C, 0x1D, 0x1E, 0x1F, 0x20] [] =
      some ([wordX], 33, .running, none) := by
  decide +kernel
theorem test_push32_cut_off : after [0x7F, 0x11, 0x22] [] = some
      ([0x1122000000000000000000000000000000000000000000000000000000000000], 33, .running, none) := by
  decide +kernel
theorem test_pop : after [0x50] [7, 3] = some ([3], 1, .running, none) := by decide +kernel
theorem test_pop_empty : after [0x50] [] = some ([], 0, .failed, some .stackUnderflow) := by decide +kernel
theorem test_dup2 : after [0x81] [7, 3] = some ([3, 7, 3], 1, .running, none) := by decide +kernel
theorem test_dup3_short : after [0x82] [7, 3] = some ([7, 3], 0, .failed, some .stackUnderflow) := by decide +kernel
theorem test_dup16 : after [0x8F] [1, 2, 3, 4, 5, 6, 7, 8, 9, 0xa, 0xb, 0xc, 0xd, 0xe, 0xf, 0x10] = some ([0x10, 1, 2,
      3, 4, 5, 6, 7, 8, 9, 0xa, 0xb, 0xc, 0xd, 0xe, 0xf, 0x10], 1, .running, none) := by
  decide +kernel
theorem test_swap1 : after [0x90] [7, 3] = some ([3, 7], 1, .running, none) := by decide +kernel
theorem test_swap2 : after [0x91] [1, 2, 3] = some ([3, 2, 1], 1, .running, none) := by decide +kernel
theorem test_swap1_short : after [0x90] [7] = some ([7], 0, .failed, some .stackUnderflow) := by decide +kernel
theorem test_swap16 : after [0x9F] [1, 2, 3, 4, 5, 6, 7, 8, 9, 0xa, 0xb, 0xc, 0xd, 0xe, 0xf, 0x10, 0x11] = some
      ([0x11, 2, 3, 4, 5, 6, 7, 8, 9, 0xa, 0xb, 0xc, 0xd, 0xe, 0xf, 0x10, 1], 1, .running, none) := by
  decide +kernel
theorem test_swap16_short : after [0x9F] [1, 2, 3, 4, 5, 6, 7, 8, 9, 0xa, 0xb, 0xc, 0xd, 0xe, 0xf, 0x10] = some ([1,
      2, 3, 4, 5, 6, 7, 8, 9, 0xa, 0xb, 0xc, 0xd, 0xe, 0xf, 0x10], 0, .failed, some .stackUnderflow) := by
  decide +kernel

/-! ## Control flow and the end of a run: section 6 -/

theorem test_stop : after [0x00] [] = some ([], 0, .halted, none) := by decide +kernel
theorem test_invalid : after [0xFE] [1] = some ([1], 0, .failed, some .explicitFault) := by decide +kernel
theorem test_unassigned_F3_halts : after [0xF3] [2, 1] = some ([2, 1], 0, .halted, none) := by decide +kernel
theorem test_unassigned_5F_halts : after [0x5F] [1] = some ([1], 0, .halted, none) := by decide +kernel
theorem test_jumpdest : after [0x5B, 0x60, 0x01] [] = some ([], 1, .running, none) := by decide +kernel
theorem test_jump : after [0x56, 0x60, 0x5B, 0x5B] [3] = some ([], 3, .running, none) := by decide +kernel
theorem test_jump_into_immediate : after [0x56, 0x60, 0x5B, 0x5B] [2] = some ([], 0, .failed, some
      .invalidJumpDestination) := by
  decide +kernel
theorem test_jump_high_bits_count : after [0x56, 0x60, 0x5B, 0x5B] [0x100000000000000000000000000000003] = some ([],
      0, .failed, some .invalidJumpDestination) := by
  decide +kernel
theorem test_jumpi_taken_on_minS : after [0x57, 0x00, 0x5B] [2, minS] = some ([], 2, .running, none) := by
  decide +kernel
theorem test_jumpi_not_taken : after [0x57, 0x60, 0x09] [0xff, 0] = some ([], 1, .running, none) := by decide +kernel
theorem test_jumpi_short : after [0x57] [4] = some ([4], 0, .failed, some .stackUnderflow) := by decide +kernel
theorem test_pc_is_its_own_offset : after [0x58] [] = some ([0], 1, .running, none) := by decide +kernel
theorem test_natural_end : after [] [9] = some ([9], 0, .halted, none) := by decide +kernel

/-! ## Context instructions and GAS: section 7 -/

theorem test_address : view (step (withContext (testState [0x30] []))) = some
      ([0x1000000000000000000000000000000000000aaa], 1, .running, none) := by
  decide +kernel
theorem test_origin : view (step (withContext (testState [0x32] []))) = some ([0x1337], 1, .running, none) := by
  decide +kernel
theorem test_caller : view (step (withContext (testState [0x33] []))) = some
      ([0x1e79b045dc29eae9fdc69673c9dcd7c53e5e159d], 1, .running, none) := by
  decide +kernel
theorem test_gasprice : view (step (withContext (testState [0x3A] []))) = some ([0x99], 1, .running, none) := by
  decide +kernel
theorem test_coinbase : view (step (withContext (testState [0x41] []))) = some ([0x777], 1, .running, none) := by
  decide +kernel
theorem test_timestamp : view (step (withContext (testState [0x42] []))) = some ([0xe4e1c1], 1, .running, none) := by
  decide +kernel
theorem test_number : view (step (withContext (testState [0x43] []))) = some ([0x1000001], 1, .running, none) := by
  decide +kernel
theorem test_difficulty : view (step (withContext (testState [0x44] []))) = some ([0x20000], 1, .running, none) := by
  decide +kernel
theorem test_gaslimit : view (step (withContext (testState [0x45] []))) = some ([0xffffffffffff], 1, .running, none)
      := by
  decide +kernel
theorem test_chainid : view (step (withContext (testState [0x46] []))) = some ([1], 1, .running, none) := by
  decide +kernel
theorem test_basefee : view (step (withContext (testState [0x48] []))) = some ([1], 1, .running, none) := by
  decide +kernel
theorem test_caller_without_transaction : after [0x33] [9] = some ([9], 0, .failed, some .missingExecutionContext) :=
      by
  decide +kernel
theorem test_chainid_without_block : after [0x46] [9] = some ([9], 0, .failed, some .missingExecutionContext) := by
  decide +kernel
theorem test_origin_absent_field : view (step (start ((((Loaded.none resetConfig).loadCode [0x32]).loadTx (some ⟨none,
      none, none, none, none, none, none⟩))))) = some ([0], 1, .running, none) := by
  decide +kernel
theorem test_gas : after [0x5A] [] = some ([maxW], 1, .running, none) := by decide +kernel

/-! ## Memory and hashing: section 5 and the programs P2, P4 of section 8 -/

/-- A state of the program with this stack, memory and MEM_LIMIT = 64. -/
def memState (code : List Byte) (stack : List Word) (mem : Memory) : State :=
  { testState code stack with mem := mem, cfg := { memUnits := 2, codeMax := 100 } }

/-- MLEN and some bytes of memory after a step. -/
def memView (addrs : List Nat) (o : StepOut) : Option (Nat × List (Option Byte)) :=
  (outState o).map fun s => (s.mem.len, addrs.map s.mem.byte?)

def memP2 : Memory := { cells := [(30, 0xAB), (31, 0x34)], len := 32 }
def memAbc : Memory := { cells := [(0, 0x61), (1, 0x62), (2, 0x63)], len := 32 }
def memEmpty : Memory := { cells := [], len := 0 }

theorem test_mload_unaligned : (outState (step (memState [0x51] [1] memP2))).map (fun s => (s.stack, s.mem.len)) =
      some ([0xab3400], 64) := by
  decide +kernel
theorem test_mload_beyond_the_limit : view (step (memState [0x51] [0x21] memEmpty)) = some ([], 0, .failed, some
      .memoryLimitExceeded) := by
  decide +kernel
theorem test_mstore_big_endian : memView [0, 1, 2, 32, 33, 64] (step (memState [0x52] [1,
      0x000102030405060708090a0b0c0d0e0f101112131415161718191a1b1c1d1e1f] memEmpty)) = some (64, [some 0, some 0, some
      1, some 0x1f, some 0, none]) := by
  decide +kernel
theorem test_mstore_pops_both_when_it_fails : view (step (memState [0x52] [0x21, 7] memEmpty)) = some ([], 0, .failed,
      some .memoryLimitExceeded) := by
  decide +kernel
theorem test_mstore8_low_byte : memView [0, 1, 30, 31] (step (memState [0x53] [0, 0x1234] memP2)) = some (32, [some
      0x34, some 0, some 0xAB, some 0x34]) := by
  decide +kernel
theorem test_mstore8_grows : memView [32, 33, 63, 64] (step (memState [0x53] [32, 0xff] memEmpty)) = some (64, [some
      0xff, some 0, some 0, none]) := by
  decide +kernel
theorem test_msize : view (step (memState [0x59] [] { memP2 with len := 64 })) = some ([0x40], 1, .running, none) :=
      by
  decide +kernel
theorem test_keccak256_abc : view (step (memState [0x20] [0, 3] memAbc)) = some
      ([0x4e03657aea45a94fc7d47ba826c8d667c0d1e6e33a64a036ec44f58fa12d6c45], 1, .running, none) := by
  decide +kernel
theorem test_keccak256_empty_window_grows : (outState (step (testState [0x20] [0x64, 0]))).map (fun s => (s.stack,
      s.mem.len)) = some ([0xc5d2460186f7233c927e7db2dcc703c0e500b653ca82273b7bfad8045d85a470], 128) := by
  decide +kernel
theorem test_digest_135 : bytesWord (Keccak.digest (List.replicate 135 0x61)) =
      0x34367dc248bbd832f4e3e69dfaac2f92638bd0bbd18f2912ba4ef454919cf446 := by
  decide +kernel
theorem test_digest_136 : bytesWord (Keccak.digest (List.replicate 136 0x61)) =
      0xa6c4d403279fe3e0af03729caada8374b5ca54d8065329a3ebcaeb4b60aa386e := by
  decide +kernel

/-! ## The depth bound: section 4 and section 7, start stacks of 1024 entries equal to 5 -/

/-- A state of the program with a full stack. -/
def fullState (code : List Byte) : State := testState code (List.replicate 1024 5)

/-- The depth, the top, STATUS and FAULT after a step. -/
def depthView (o : StepOut) : Option (Nat × Option Word × Status × Option FailureKind) :=
  (outState o).map fun s => (s.depth, s.entry 1, s.status, s.fault)

theorem test_push_overflow : depthView (step (fullState [0x60, 0x01])) = some (1024, some 5, .failed, some
      .stackOverflow) := by
  decide +kernel
theorem test_dup_overflow : depthView (step (fullState [0x80])) = some (1024, some 5, .failed, some .stackOverflow) :=
      by
  decide +kernel
theorem test_swap_at_the_bound : depthView (step (fullState [0x9F])) = some (1024, some 5, .running, none) := by
  decide +kernel
theorem test_add_at_the_bound : depthView (step (fullState [0x01])) = some (1023, some 0xa, .running, none) := by
  decide +kernel
theorem test_context_before_overflow : depthView (step (fullState [0x30])) = some (1024, some 5, .failed, some
      .missingExecutionContext) := by
  decide +kernel
theorem test_context_overflow : depthView (step (withContext (fullState [0x30]))) = some (1024, some 5, .failed, some
      .stackOverflow) := by
  decide +kernel

/-! ## The scan (section 6) and the words of spec/opcode_table.json -/

theorem test_valid_skips_push_data : validDestinations [0x61, 0x5B, 0x5B, 0x5B] = [3] := by decide +kernel
theorem test_valid_after_short_push : validDestinations [0x60, 0x7F, 0x5B] = [2] := by decide +kernel
theorem test_table_word_push2 : decodeTableWord 24 0x020161 = some (.push2 0x0102) := by decide +kernel
theorem test_table_word_short : decodeTableWord 8 0x61 = some (.push2 0) := by decide +kernel
theorem test_with_fetch_word : view (step (State.reset.withFetchWord 16 0xFF60)) = some ([0xff], 2, .running, none) :=
      by
  decide +kernel
theorem test_scenario_a : execute resetConfig 9 [0x60, 0x01, 0x60, 0x02, 0x01] none none = some ⟨[3], true⟩ := by
  decide +kernel
theorem test_diag_of_a_failure : (outState (step (testState [0x01] [3]))).bind State.diag = some ⟨1, 0⟩ := by
  decide +kernel

/-! ## Witnesses: for every statement with hypotheses, states and operands that meet them all, one for each clause -/

theorem inv_of {s : State} (h : s.depth ≤ 1024 ∧ s.mem.wf = true ∧ s.mem.len ≤ s.cfg.memLimit ∧
    s.code.length ≤ s.cfg.codeMax ∧ s.valid = validDestinations s.code ∧ s.pc ≤ s.code.length + 32 ∧
    (s.pc ∈ opcodeOffsets s.code ∨ s.code.length ≤ s.pc) ∧ (s.fault = none ↔ s.status ≠ .failed)) : s.Inv :=
  ⟨h.1, h.2.1, h.2.2.1, h.2.2.2.1, h.2.2.2.2.1, h.2.2.2.2.2.1, h.2.2.2.2.2.2.1, h.2.2.2.2.2.2.2⟩

/-- The program `60 01 57 5B` at its first byte, with this stack. -/
def progState (stack : List Word) : State := testState [0x60, 0x01, 0x57, 0x5B] stack

theorem progState_inv : (progState [3, 1]).Inv := inv_of (by decide +kernel)
theorem memState_inv : (memState [0x51] [0x20, 0] memEmpty).Inv := inv_of (by decide +kernel)

theorem witness_ResetMeetsTheInvariant : ((Loaded.none ⟨0, 1⟩).loadCode [0x5B]).code.length ≤ 1 := by decide
theorem witness_StepKeepsTheInvariant : ∃ t, (progState [3, 1]).Inv ∧ step (progState [3, 1]) = .next t :=
  ⟨_, progState_inv, rfl⟩
theorem witness_DecodeOfEncodeIsTheInstruction : WellFormed (.push1 0xFF) = true ∧ WellFormed (.push32 maxW) = true :=
      by
  decide +kernel
theorem witness_EncodeOfDecodeIsTheBytes : 32 < (Instr.push32 1).length := by decide
theorem witness_PushDecodesItsPaddedImmediate : (32, Instr.push32) ∈ Claim.pushInstrs := by simp [Claim.pushInstrs]
theorem witness_StepRunsTheDecodedInstruction : (progState []).status = .running ∧ decode ((progState []).code.drop
      (progState []).pc) = .ok (.push1 1) ∧ (progState []).pc < (progState []).code.length :=
  ⟨rfl, rfl, by decide⟩
theorem witness_NaturalEndHaltsWithSuccess : (testState [] [9]).status = .running ∧ (testState [] [9]).code.length ≤
      (testState [] [9]).pc ∧ (testState [] [9]).Inv :=
  ⟨rfl, by decide, inv_of (by decide +kernel)⟩
theorem witness_NaturalEndHaltsWithSuccess_target : (progState []).validTarget 3 = true := by decide +kernel
theorem witness_NaturalEndHaltsWithSuccess_empty : (Loaded.none resetConfig).code = [] := rfl
theorem witness_NoStepAfterTheRunIsOver : (halt State.reset).status ≠ .running ∧ (raise .explicitFault
      State.reset).status ≠ .running := by
  decide
theorem witness_ValidMeansInTheScannedSet : (progState [3, 1]).Inv := progState_inv
theorem witness_ValidMeansInTheScannedSet_both : (progState []).validTarget 3 = true ∧ (progState []).validTarget 4 =
      false := by
  decide +kernel
theorem witness_PopDiscardsTheTop : (progState [7]).stack = 7 :: [] ∧ (progState []).depth = 0 := by decide +kernel
theorem witness_PushPushesItsImmediate : (1, Instr.push1) ∈ Claim.pushInstrs ∧ (testState [] (List.replicate 1023
      5)).depth < 1024 ∧ (fullState []).depth = 1024 :=
  ⟨by simp [Claim.pushInstrs], by decide +kernel, by decide +kernel⟩
theorem witness_PushStepReadsItsBytesFromCode : (testState [0x7F, 0x11] []).status = .running ∧ (testState [0x7F,
      0x11] []).code.drop 0 = BitVec.ofNat 8 (0x5F + 32) :: [0x11] ∧ ([0x11] : List Byte).length < 32 ∧ (testState
      [0x7F, 0x11] []).depth < 1024 := by
  decide +kernel
theorem witness_PushStepReadsItsBytesFromCode_inv : (testState [0x7F, 0x11] []).Inv ∧ (testState [0x7F, 0x11] []).pc <
      32 ∧ 32 < (testState [0x7F, 0x11] []).pc + 1 + 32 :=
  ⟨inv_of (by decide +kernel), by decide, by decide⟩
theorem witness_PushStepReadsItsBytesFromCode_full : (fullState [0x60]).status = .running ∧ (fullState
      [0x60]).code.drop 0 = BitVec.ofNat 8 (0x5F + 1) :: [] ∧ (fullState [0x60]).depth = 1024 := by
  decide +kernel
theorem witness_DupPushesACopyOfTheNthEntry : (16, Instr.dup16) ∈ Claim.dupInstrs ∧ (testState [] (List.replicate 16
      5)).entry 16 = some 5 ∧ (testState [] (List.replicate 16 5)).depth < 1024 ∧ (testState [] (List.replicate 15
      5)).depth < 16 ∧ (fullState []).depth = 1024 :=
  ⟨by simp [Claim.dupInstrs], by decide +kernel, by decide +kernel, by decide +kernel, by decide +kernel⟩
theorem witness_SwapExchangesTopAndNPlusFirst : (2, Instr.swap2) ∈ Claim.swapInstrs ∧ (progState [1, 2, 3]).stack = 1
      :: ([2] ++ 3 :: []) ∧ ([2] : List Word).length + 1 = 2 ∧ (progState [1, 2]).depth < 2 + 1 :=
  ⟨by simp [Claim.swapInstrs], rfl, rfl, by decide⟩
/-- What `UnaryRule`, `BinaryRule`, `TernaryRule`, `PushRule`, `ContextRule` of the statements assume, one state for each clause. -/
def UnaryRuleHypotheses : Prop := (fullState []).depth ≤ 1024 ∧ (fullState []).stack = 5 :: List.replicate 1023 5 ∧
      (progState []).depth < 1
theorem unaryRuleHypotheses : UnaryRuleHypotheses := by unfold UnaryRuleHypotheses; decide +kernel
def BinaryRuleHypotheses : Prop := (fullState []).depth ≤ 1024 ∧ (fullState []).stack = 5 :: 5 :: List.replicate 1022
      5 ∧ (progState [5]).depth < 2
theorem binaryRuleHypotheses : BinaryRuleHypotheses := by unfold BinaryRuleHypotheses; decide +kernel
theorem witness_AddMulSubWrap : BinaryRuleHypotheses := binaryRuleHypotheses
theorem witness_ExpIsThePowerModuloTwoTo256 : BinaryRuleHypotheses := binaryRuleHypotheses
theorem witness_BitwiseActsOnEveryBit : UnaryRuleHypotheses ∧ BinaryRuleHypotheses :=
  ⟨unaryRuleHypotheses, binaryRuleHypotheses⟩
theorem witness_ComparisonsPushOneOrZero : UnaryRuleHypotheses ∧ BinaryRuleHypotheses :=
  ⟨unaryRuleHypotheses, binaryRuleHypotheses⟩
theorem witness_ByteCountsFromTheMostSignificant : BinaryRuleHypotheses := binaryRuleHypotheses
def TernaryRuleHypotheses : Prop := (fullState []).depth ≤ 1024 ∧ (fullState []).stack = 5 :: 5 :: 5 :: List.replicate
      1021 5 ∧ (progState [5, 5]).depth < 3
theorem ternaryRuleHypotheses : TernaryRuleHypotheses := by unfold TernaryRuleHypotheses; decide +kernel
theorem witness_ModularSumAndProductAreExact : TernaryRuleHypotheses := ternaryRuleHypotheses
def PushRuleHypotheses : Prop := (testState [] (List.replicate 1023 5)).depth < 1024 ∧ (fullState []).depth = 1024
theorem pushRuleHypotheses : PushRuleHypotheses := by unfold PushRuleHypotheses; decide +kernel
theorem witness_MsizePushesTheLength : PushRuleHypotheses ∧ memP2.wf = true ∧ (memState [0x51] [0x20, 0] memEmpty).Inv
      ∧ (memState [0x51] [0x20, 0] memEmpty).cfg.memLimit < 2 ^ 256 :=
  ⟨pushRuleHypotheses, by decide, memState_inv, by decide +kernel⟩
theorem witness_GasPushesTheMaximumWord : PushRuleHypotheses := pushRuleHypotheses
def ContextRuleHypotheses : Prop := (withContext (testState [] (List.replicate 1023 5))).tx.present = true ∧
      (withContext (testState [] (List.replicate 1023 5))).depth < 1024 ∧ (withContext (progState
      [])).tx.recipient.present = true ∧ (withContext (fullState [])).blk.present = true ∧ (withContext (fullState
      [])).depth = 1024
theorem contextRuleHypotheses : ContextRuleHypotheses := by unfold ContextRuleHypotheses; decide +kernel
theorem witness_ContextInstructionsReadTheirRegister : ContextRuleHypotheses := contextRuleHypotheses
theorem witness_ContextInstructionsReadTheirRegister_absent : ((Loaded.none resetConfig).loadTx (some ⟨none, none,
      none, none, none, none, none⟩)).tx.present = true ∧ ((Loaded.none resetConfig).loadTx (some ⟨none, none, none,
      none, none, none, none⟩)).tx.recipient.present = false ∧ (progState []).tx.present = false ∧ (progState
      []).blk.present = false := by
  decide +kernel
theorem witness_UnsignedDivisionYieldsZeroByZero : BinaryRuleHypotheses ∧ (0 : Word).toNat = 0 ∧ (maxW : Word).toNat ≠
      0 :=
  ⟨binaryRuleHypotheses, by decide +kernel⟩
theorem witness_SignedDivisionTruncatesTowardZero : BinaryRuleHypotheses ∧ (0 : Word).toInt = 0 ∧ (maxW : Word).toInt
      = -1 ∧ (maxW : Word).toInt ≠ 0 ∧ ¬ ((minS : Word) = minS ∧ (oneW : Word).toInt = -1) :=
  ⟨binaryRuleHypotheses, by decide +kernel⟩
theorem witness_SignedRemainderHasTheSignOfTheDividend : BinaryRuleHypotheses ∧ (0 : Word).toInt = 0 ∧ (maxW :
      Word).toInt ≠ 0 :=
  ⟨binaryRuleHypotheses, by decide +kernel⟩
theorem witness_SignextendCopiesTheInspectedBit : BinaryRuleHypotheses ∧ 31 ≤ (31 : Word).toNat ∧ (30 : Word).toNat <
      31 ∧ 8 * ((30 : Word).toNat + 1) - 1 < 255 :=
  ⟨binaryRuleHypotheses, by decide +kernel⟩
theorem witness_DivisionIdentitiesHold : ∃ tq tr, (progState [minS, 3]).depth ≤ 1024 ∧ (progState [minS, 3]).stack =
      minS :: 3 :: [] ∧ tq.entry 1 = some (Engine.sdiv minS 3) ∧ tr.entry 1 = some (Engine.smod minS 3) ∧ exec .sdiv
      (progState [minS, 3]) = .next tq ∧ exec .smod (progState [minS, 3]) = .next tr ∧ (3 : Word).toInt ≠ 0 ∧ ¬ ((minS
      : Word) = minS ∧ (3 : Word).toInt = -1) :=
  ⟨_, _, by decide, rfl, rfl, rfl, rfl, rfl, by decide +kernel, by decide +kernel⟩
theorem witness_DivisionIdentitiesHold_unsigned : ∃ tq tr, (progState [maxW, 3]).stack = maxW :: 3 :: [] ∧ tq.entry 1
      = some (Engine.div maxW 3) ∧ tr.entry 1 = some (Engine.mod maxW 3) ∧ exec .div (progState [maxW, 3]) = .next tq
      ∧ exec .mod (progState [maxW, 3]) = .next tr ∧ (3 : Word).toNat ≠ 0 :=
  ⟨_, _, rfl, rfl, rfl, rfl, rfl, by decide +kernel⟩
theorem witness_ShiftsMoveEveryBit : BinaryRuleHypotheses ∧ 256 ≤ (256 : Word).toNat ∧ (255 : Word).toNat < 256 ∧
      (maxS : Word).getLsbD 255 = false ∧ (minS : Word).getLsbD 255 = true :=
  ⟨binaryRuleHypotheses, by decide +kernel⟩
/-- MEM_LIMIT is 64: an end within MLEN, an end at MEM_LIMIT, and an end one byte beyond it. -/
theorem witness_MemEnsureGrowsInUnitsOfZeros : memP2.wf = true ∧ 0 + 32 ≤ memP2.len ∧ (memP2.len < 33 + 32 ∧ (⟨2, 0⟩ :
      Config).memLimit < 33 + 32) ∧ (memP2.len < 32 + 32 ∧ 32 + 32 ≤ (⟨2, 0⟩ : Config).memLimit) := by
  decide +kernel
theorem witness_MloadReadsTheWordAtTheOffset : memEmpty.wf = true ∧ (memState [] [0x20] memEmpty).depth ≤ 1024 ∧
      (memState [] [0x20] memEmpty).stack = 0x20 :: [] ∧ Claim.Fits (memState [] [0x20] memEmpty) (0x20 : Word).toNat
      32 := by
  unfold Claim.Fits; decide +kernel
theorem witness_MloadReadsTheWordAtTheOffset_limit : (memState [] [0x21] memEmpty).stack = 0x21 :: [] ∧ Claim.TooFar
      (memState [] [0x21] memEmpty) (0x21 : Word).toNat 32 ∧ (memState [] [] memEmpty).depth = 0 := by
  unfold Claim.TooFar; decide +kernel
theorem witness_MstoreWritesThirtyTwoBytes : memP2.wf = true ∧ (memState [] [0x20, 7] memP2).depth ≤ 1024 ∧ (memState
      [] [0x20, 7] memP2).stack = 0x20 :: 7 :: [] ∧ Claim.Fits (memState [] [0x20, 7] memP2) (0x20 : Word).toNat 32 :=
      by
  unfold Claim.Fits; decide +kernel
theorem witness_MstoreWritesThirtyTwoBytes_limit : (memState [] [0x21, 7] memP2).stack = 0x21 :: 7 :: [] ∧
      Claim.TooFar (memState [] [0x21, 7] memP2) (0x21 : Word).toNat 32 ∧ (memState [] [7] memP2).depth < 2 := by
  unfold Claim.TooFar; decide +kernel
theorem witness_Mstore8WritesTheLeastSignificantByte : memP2.wf = true ∧ (memState [] [63, 7] memP2).stack = 63 :: 7
      :: [] ∧ Claim.Fits (memState [] [63, 7] memP2) (63 : Word).toNat 1 ∧ Claim.TooFar (memState [] [64, 7] memP2)
      (64 : Word).toNat 1 := by
  unfold Claim.Fits Claim.TooFar; decide +kernel
/-- A window of length 0 beyond MLEN, and one that ends one byte beyond MEM_LIMIT. -/
theorem witness_KeccakPushesTheDigestOfTheWindow : memP2.wf = true ∧ (memState [] [64, 0] memP2).depth ≤ 1024 ∧
      (memState [] [64, 0] memP2).stack = 64 :: 0 :: [] ∧ Claim.Fits (memState [] [64, 0] memP2) (64 : Word).toNat (0
      : Word).toNat ∧ Claim.TooFar (memState [] [0, 65] memP2) (0 : Word).toNat (65 : Word).toNat := by
  unfold Claim.Fits Claim.TooFar; decide +kernel
theorem witness_KeccakRoundsFollowTheirTables : Keccak.zeroState.length = 25 ∧ 4 < 5 := by decide
theorem witness_KeccakPaddingFillsTheLastBlock : 135 % 136 = 135 ∧ 134 % 136 ≠ 135 ∧ 0 < 1 ∧ 1 + 1 < (Keccak.padding
      133).length := by
  decide +kernel
theorem witness_KeccakPaddingFillsTheLastBlock_digest : 31 < 32 ∧ (Keccak.digest [0x61]).length = 32 := by
  decide +kernel
theorem witness_MstoreThenMloadReturnsTheWord : memP2.wf = true ∧ (memState [] [0x20, 7] memP2).depth ≤ 1024 ∧
      (memState [] [0x20, 7] memP2).stack = 0x20 :: 7 :: [] ∧ Claim.Fits (memState [] [0x20, 7] memP2) (0x20 :
      Word).toNat 32 :=
  witness_MstoreWritesThirtyTwoBytes
theorem witness_Mstore8ThenMloadPlacesTheByte : memP2.wf = true ∧ (memState [] [63, 7] memP2).depth ≤ 1024 ∧ (memState
      [] [63, 7] memP2).stack = 63 :: 7 :: [] ∧ (32 : Word).toNat ≤ (63 : Word).toNat ∧ (63 : Word).toNat ≤ (32 :
      Word).toNat + 31 ∧ Claim.Fits (memState [] [63, 7] memP2) (63 : Word).toNat 1 ∧ Claim.Fits (memState [] [63, 7]
      memP2) (32 : Word).toNat 32 := by
  unfold Claim.Fits; decide +kernel
theorem witness_JumpdestDoesNothingElse : 3 ∈ opcodeOffsets [0x60, 0x5B, 0x00, 0x5B] ∧ ([0x60, 0x5B, 0x00, 0x5B] :
      List Byte)[3]? = some 0x5B := by
  decide +kernel
theorem witness_JumpGoesToAValidTargetOrFails : (progState [3]).valid = validDestinations (progState [3]).code ∧
      (progState [3]).stack = 3 :: [] ∧ Claim.ValidDestination (progState [3]).code 3 ∧ ¬ Claim.ValidDestination
      (progState [3]).code 4 ∧ (progState []).depth = 0 := by
  unfold Claim.ValidDestination; decide +kernel
theorem witness_JumpiJumpsOnANonzeroCondition : (progState [3, minS]).valid = validDestinations (progState [3,
      minS]).code ∧ (progState [3, minS]).stack = 3 :: minS :: [] ∧ (minS : Word) ≠ 0 ∧ Claim.ValidDestination
      (progState [3, minS]).code 3 ∧ ¬ Claim.ValidDestination (progState [3, minS]).code 2 ∧ (progState [4]).depth < 2
      := by
  unfold Claim.ValidDestination; decide +kernel
theorem witness_JumpiJumpsOnANonzeroCondition_zero : (progState [4, 0]).stack = 4 :: 0 :: [] ∧ (0 : Word) = 0 :=
  ⟨rfl, rfl⟩
theorem witness_PcPushesItsOwnOffset : PushRuleHypotheses ∧ (progState [3, 1]).Inv ∧ (progState [3, 1]).pc <
      (progState [3, 1]).code.length ∧ (progState [3, 1]).cfg.codeMax < 2 ^ 256 :=
  ⟨pushRuleHypotheses, progState_inv, by decide, by decide +kernel⟩
theorem witness_UnassignedOpcodesHaltWithSuccess : Instr.unassignedFF ∈ Claim.unassignedInstrs := by
  simp [Claim.unassignedInstrs]
theorem witness_UnassignedBytesAreTheListed143 : (testState [0xFD, 0x00] []).status = .running ∧ (testState [0xFD,
      0x00] []).code.drop (testState [0xFD, 0x00] []).pc = 0xFD :: [0x00] ∧ Claim.unassignedByte 0xFD = true ∧
      Claim.unassignedByte 0xFE = false := by
  decide +kernel
theorem witness_ExecAlwaysAnswersANextState : ∃ t, exec .add (progState []) = .next t := ⟨_, rfl⟩
theorem witness_FailuresFreezeTheState_operands_kept : ∃ t, (progState [3, 1]).Inv ∧ (progState [3, 1]).status =
      .running ∧ exec .addmod (progState [3, 1]) = .next t ∧ t.status = .failed :=
  ⟨_, progState_inv, rfl, rfl, rfl⟩
theorem witness_FailuresFreezeTheState_operands_popped : (progState [2, 1]).Inv ∧ (progState [2, 1]).status = .running
      ∧ (outState (exec .jumpi (progState [2, 1]))).map (fun t => (t.status, t.fault)) = some (.failed, some
      .invalidJumpDestination) :=
  ⟨inv_of (by decide +kernel), rfl, by decide +kernel⟩
theorem witness_FailuresAreExactlyTheTable : (fullState [0x30]).Inv ∧ (fullState [0x30]).status = .running ∧
      Claim.bankMissing .address (fullState [0x30]) :=
  ⟨inv_of (by decide +kernel), rfl, .inl ⟨by simp [Claim.readsTx], rfl⟩⟩
theorem witness_OnlyJumpsTransferControl : ∃ t, (progState [3]).depth ≤ 1024 ∧ (progState [3]).status = .running ∧
      exec (.push32 1) (progState [3]) = .next t ∧ t.status = .running :=
  ⟨_, by decide, rfl, rfl, rfl⟩
theorem witness_OnlyJumpsTransferControl_ends : ∃ t, (progState [3]).depth ≤ 1024 ∧ (progState [3]).status = .running
      ∧ exec .stop (progState [3]) = .next t ∧ t.status ≠ .running :=
  ⟨_, by decide, rfl, rfl, by decide⟩
theorem witness_DepthChangesByPopsAndPushes : ∃ t, (progState [3]).depth ≤ 1024 ∧ exec .dup1 (progState [3]) = .next t
      ∧ t.status ≠ .failed :=
  ⟨_, by decide, rfl, by decide⟩
theorem witness_FormsThatStoreNothingKeepEveryByte : ∃ t, (memState [] [64, 0] memP2).mem.wf = true ∧ exec .keccak256
      (memState [] [64, 0] memP2) = .next t ∧ t.mem.len = 64 :=
  ⟨_, by decide, rfl, rfl⟩
theorem witness_NoInstructionWritesWhatTheHostLoaded : ∃ t, step (progState []) = .next t ∧ t.status ≠ .failed :=
  ⟨_, rfl, by decide⟩
theorem witness_OnlyContextInstructionsReadTheContext : ∃ t, ¬ Claim.readsTx .gas ∧ ¬ Claim.readsBlk .gas ∧ exec .gas
      (progState []) = .next t :=
  ⟨_, by simp [Claim.readsTx], by simp [Claim.readsBlk], rfl⟩
theorem witness_FaultRegisterInfluencesNothing : ∃ t, step (progState []) = .next t := ⟨_, rfl⟩
theorem witness_HostLoadsBetweenRunsOnly : ([0x00] : List Byte).length ≤ 1 ∧ 1 < ([0x00, 0x00] : List Byte).length ∧
      State.reset.status = .running ∧ (halt State.reset).status ≠ .running := by
  decide
theorem witness_ResultIsTheStackAndSuccess_entries : (0 < 1 ∨ (progState [7]).depth < 0) ∧ (2 < 1 ∨ (progState
      [7]).depth < 2) := by
  decide
theorem witness_ResultIsTheStackAndSuccess : ∃ t, (halt State.reset).status = .halted ∧ (raise .explicitFault
      State.reset).status = .failed ∧ 1 ≤ (progState [7]).depth ∧ step (progState [7]) = .next t :=
  ⟨_, rfl, rfl, by decide, rfl⟩
theorem witness_DiagnosticsAreTheFaultCodeAndThePc : ∃ t, step (testState [0x01] [3]) = .next t ∧ t.status = .failed ∧
      t.fault = some .stackUnderflow ∧ t.status ≠ .running ∧ (testState [0x01] [3]).status = .running ∧ (testState
      [0x01] [3]).fault = none :=
  ⟨_, rfl, rfl, rfl, by decide, rfl, rfl⟩
theorem witness_DiagnosticsAreTheFaultCodeAndThePc_kinds : [FailureKind.stackUnderflow, .stackOverflow,
      .invalidJumpDestination, .missingExecutionContext, .explicitFault, .memoryLimitExceeded].all (fun k => decide
      ((raise k State.reset).fault = some k)) = true := by
  decide

end Sys2Proof.Tests
end

section
/-! SUPPORT. The 256 arms of `exec` are the meanings of 19 forms. What holds of every instruction is proved form by form. -/

namespace Sys2Proof.Machine

/-- The forms the rules of 41_stack_ops.md to 46_context_gas.md take, each with what tells its instructions apart: a
result function, an immediate, a position on the stack, a context register or the bytes stored. -/
inductive Form where
  | halts
  | invalid
  | unary (f : Word → Word)
  | binary (f : Word → Word → Word)
  | ternary (f : Word → Word → Word → Word)
  | discard
  | push (n : Nat) (w : Word)
  | pushPc
  | pushMsize
  | dup (n : Nat)
  | swap (n : Nat)
  | txRegister (r : TxBank → CtxReg)
  | blkRegister (r : BlkBank → CtxReg)
  | load
  | hash
  | store (bytes : Word → List Byte)
  | next
  | jump
  | jumpi

/-- The meaning of a form, by the model's own templates. -/
def Form.run : Form → State → StepOut
  | .halts, s => execStop s
  | .invalid, s => execInvalid s
  | .unary f, s => Machine.unary f s
  | .binary f, s => Machine.binary f s
  | .ternary f, s => Machine.ternary f s
  | .discard, s => execPop s
  | .push n w, s => pushImm n w s
  | .pushPc, s => execPc s
  | .pushMsize, s => execMsize s
  | .dup n, s => dupTop n s
  | .swap n, s => swapTop n s
  | .txRegister r, s => pushContext s.tx.present (r s.tx) s
  | .blkRegister r, s => pushContext s.blk.present (r s.blk) s
  | .load, s => execMload s
  | .hash, s => execKeccak256 s
  | .store bytes, s => pop2 s fun offset value s => memWrite offset.toNat (bytes value) s (advance 1)
  | .next, s => execJumpdest s
  | .jump, s => execJump s
  | .jumpi, s => execJumpi s

/-- The form of each instruction; the unassigned ones take the last line, with STOP (45_control_flow.md R286). -/
def form : Instr → Form
  | .add => .binary Engine.add | .mul => .binary Engine.mul | .sub => .binary Engine.sub
  | .div => .binary Engine.div | .sdiv => .binary Engine.sdiv | .mod => .binary Engine.mod
  | .smod => .binary Engine.smod | .addmod => .ternary Engine.addmod | .mulmod => .ternary Engine.mulmod
  | .exp => .binary Engine.exp | .signextend => .binary Engine.signextend
  | .lt => .binary Engine.lt | .gt => .binary Engine.gt | .slt => .binary Engine.slt | .sgt => .binary Engine.sgt
  | .eq => .binary Engine.eq | .iszero => .unary Engine.iszero | .and => .binary Engine.and | .or => .binary Engine.or
  | .xor => .binary Engine.xor | .not => .unary Engine.not | .byte => .binary Engine.byte
  | .shl => .binary Engine.shl | .shr => .binary Engine.shr | .sar => .binary Engine.sar
  | .address => .txRegister (·.recipient) | .origin => .txRegister (·.origin) | .caller => .txRegister (·.sender)
  | .gasprice => .txRegister (·.gasPrice)
  | .coinbase => .blkRegister (·.coinBase) | .timestamp => .blkRegister (·.timestamp)
  | .number => .blkRegister (·.number) | .difficulty => .blkRegister (·.difficulty)
  | .gaslimit => .blkRegister (·.gasLimit) | .chainid => .blkRegister (·.chainId)
  | .basefee => .blkRegister (·.baseFee)
  | .keccak256 => .hash | .mload => .load | .mstore => .store wordBytes
  | .mstore8 => .store fun value => [value.setWidth 8] | .msize => .pushMsize
  | .jump => .jump | .jumpi => .jumpi | .pc => .pushPc | .jumpdest => .next | .invalid => .invalid
  | .pop => .discard | .gas => .push 0 gasSentinel
  | .push1 w => .push 1 w | .push2 w => .push 2 w | .push3 w => .push 3 w | .push4 w => .push 4 w
  | .push5 w => .push 5 w | .push6 w => .push 6 w | .push7 w => .push 7 w | .push8 w => .push 8 w
  | .push9 w => .push 9 w | .push10 w => .push 10 w | .push11 w => .push 11 w | .push12 w => .push 12 w
  | .push13 w => .push 13 w | .push14 w => .push 14 w | .push15 w => .push 15 w | .push16 w => .push 16 w
  | .push17 w => .push 17 w | .push18 w => .push 18 w | .push19 w => .push 19 w | .push20 w => .push 20 w
  | .push21 w => .push 21 w | .push22 w => .push 22 w | .push23 w => .push 23 w | .push24 w => .push 24 w
  | .push25 w => .push 25 w | .push26 w => .push 26 w | .push27 w => .push 27 w | .push28 w => .push 28 w
  | .push29 w => .push 29 w | .push30 w => .push 30 w | .push31 w => .push 31 w | .push32 w => .push 32 w
  | .dup1 => .dup 1 | .dup2 => .dup 2 | .dup3 => .dup 3 | .dup4 => .dup 4 | .dup5 => .dup 5 | .dup6 => .dup 6
  | .dup7 => .dup 7 | .dup8 => .dup 8 | .dup9 => .dup 9 | .dup10 => .dup 10 | .dup11 => .dup 11 | .dup12 => .dup 12
  | .dup13 => .dup 13 | .dup14 => .dup 14 | .dup15 => .dup 15 | .dup16 => .dup 16
  | .swap1 => .swap 1 | .swap2 => .swap 2 | .swap3 => .swap 3 | .swap4 => .swap 4 | .swap5 => .swap 5
  | .swap6 => .swap 6 | .swap7 => .swap 7 | .swap8 => .swap 8 | .swap9 => .swap 9 | .swap10 => .swap 10
  | .swap11 => .swap 11 | .swap12 => .swap 12 | .swap13 => .swap 13 | .swap14 => .swap 14 | .swap15 => .swap 15
  | .swap16 => .swap 16
  | _ => .halts

/-- Every arm of `exec` is the meaning of the instruction's form. -/
theorem exec_eq_run_form (i : Instr) (s : State) : exec i s = (form i).run s := by
  cases i <;> rfl

/-- Whether a form looks a target up in VALID (40_program_and_loop.md R121). -/
def Form.readsValid : Form → Bool
  | .jump | .jumpi => true
  | _ => false

/-- Whether a form reads a context bank (46_context_gas.md R300). -/
def Form.readsContext : Form → Bool
  | .txRegister _ | .blkRegister _ => true
  | _ => false

theorem isJump_of_readsValid {i : Instr} (h : (form i).readsValid = true) : i = .jump ∨ i = .jumpi := by
  cases i
  case jump => exact .inl rfl
  case jumpi => exact .inr rfl
  all_goals cases h

theorem readsBank_of_readsContext {i : Instr} (h : (form i).readsContext = true) :
    Claim.readsTx i ∨ Claim.readsBlk i := by
  cases i
  case address | origin | caller | gasprice => exact .inl (by simp [Claim.readsTx])
  case coinbase | timestamp | number | difficulty | gaslimit | chainid | basefee =>
    exact .inr (by simp [Claim.readsBlk])
  all_goals cases h

end Sys2Proof.Machine
end

section
/-! SUPPORT. Noninterference: two states that agree on what an operation reads are taken to states that agree again. -/

namespace Sys2Proof.Machine

/-- The two states agree on what every instruction reads: the stack, pc, STATUS, memory and the parameters. When `V` holds
they agree on the program and VALID too, and when `X` holds on the context. FAULT may differ until the run fails. -/
structure Alike (V X : Prop) (s s' : State) : Prop where
  stack : s'.stack = s.stack
  pc : s'.pc = s.pc
  status : s'.status = s.status
  mem : s'.mem = s.mem
  cfg : s'.cfg = s.cfg
  fault : s.status = .failed → s'.fault = s.fault
  program : V → s'.code = s.code ∧ s'.valid = s.valid
  context : X → s'.tx = s.tx ∧ s'.blk = s.blk

/-- Both steps give a next state, and the next states are alike. -/
def AlikeOut (V X : Prop) (o o' : StepOut) : Prop :=
  ∃ t t', o = .next t ∧ o' = .next t' ∧ Alike V X t t'

section
variable {V X : Prop} {s s' : State}

theorem AlikeOut.next {t t' : State} (h : Alike V X t t') : AlikeOut V X (.next t) (.next t') :=
  ⟨t, t', rfl, rfl, h⟩

theorem Alike.withStack (h : Alike V X s s') (st : List Word) :
    Alike V X { s with stack := st } { s' with stack := st } := { h with stack := rfl }

theorem Alike.withMem (h : Alike V X s s') (m : Memory) :
    Alike V X { s with mem := m } { s' with mem := m } := { h with mem := rfl }

theorem Alike.withPc (h : Alike V X s s') (p : Nat) :
    Alike V X { s with pc := p } { s' with pc := p } := { h with pc := rfl }

theorem Alike.halt (h : Alike V X s s') : Alike V X (halt s) (halt s') :=
  { h with status := rfl, fault := nofun }

theorem Alike.raise (h : Alike V X s s') (k : FailureKind) : Alike V X (raise k s) (raise k s') :=
  { h with status := rfl, fault := fun _ => rfl }

theorem Alike.failStep (h : Alike V X s s') (k : FailureKind) : AlikeOut V X (failStep k s) (failStep k s') :=
  .next (h.raise k)

theorem Alike.advance (h : Alike V X s s') (n : Nat) : AlikeOut V X (advance n s) (advance n s') := by
  rw [advance_eq, advance_eq, h.pc]
  exact .next (h.withPc _)

theorem Alike.push (h : Alike V X s s') (w : Word) {k : State → StepOut}
    (hk : ∀ {t t'}, Alike V X t t' → AlikeOut V X (k t) (k t')) : AlikeOut V X (push w s k) (push w s' k) := by
  rcases Nat.lt_or_ge s.stack.length 1024 with hl | hl
  · rw [push_of_lt hl, push_of_lt (by rwa [h.stack]), h.stack]
    exact hk (h.withStack _)
  · rw [push_of_ge hl, push_of_ge (by rwa [h.stack])]
    exact h.failStep _

/-- A push that ends the instruction. -/
theorem Alike.pushAdvance (h : Alike V X s s') (w : Word) (n : Nat) :
    AlikeOut V X (Machine.push w s (Machine.advance n)) (Machine.push w s' (Machine.advance n)) :=
  h.push w fun h => h.advance n

theorem Alike.pop1 (h : Alike V X s s') {k : Word → State → StepOut}
    (hk : ∀ a {t t'}, Alike V X t t' → AlikeOut V X (k a t) (k a t')) : AlikeOut V X (pop1 s k) (pop1 s' k) := by
  simp only [Machine.pop1, h.stack]
  split
  · exact hk _ (h.withStack _)
  · exact h.failStep _

theorem Alike.pop2 (h : Alike V X s s') {k : Word → Word → State → StepOut}
    (hk : ∀ a b {t t'}, Alike V X t t' → AlikeOut V X (k a b t) (k a b t')) :
    AlikeOut V X (pop2 s k) (pop2 s' k) := by
  simp only [Machine.pop2, h.stack]
  split
  · exact hk _ _ (h.withStack _)
  · exact h.failStep _

theorem Alike.pop3 (h : Alike V X s s') {k : Word → Word → Word → State → StepOut}
    (hk : ∀ a b c {t t'}, Alike V X t t' → AlikeOut V X (k a b c t) (k a b c t')) :
    AlikeOut V X (pop3 s k) (pop3 s' k) := by
  simp only [Machine.pop3, h.stack]
  split
  · exact hk _ _ _ (h.withStack _)
  · exact h.failStep _

theorem Alike.entry (h : Alike V X s s') (k : Nat) : s'.entry k = s.entry k := by
  cases k with
  | zero => rfl
  | succ k => rw [entry_succ, entry_succ, h.stack]

theorem Alike.peek (h : Alike V X s s') (n : Nat) {k : Word → StepOut} {k' : Word → StepOut}
    (hk : ∀ w, AlikeOut V X (k w) (k' w)) : AlikeOut V X (peek n s k) (peek n s' k') := by
  simp only [Machine.peek, h.entry]
  split
  · exact hk _
  · exact h.failStep _

theorem Alike.exchange (h : Alike V X s s') (n : Nat) {k : State → StepOut}
    (hk : ∀ {t t'}, Alike V X t t' → AlikeOut V X (k t) (k t')) :
    AlikeOut V X (exchange n s k) (exchange n s' k) := by
  simp only [Machine.exchange, h.entry, h.stack]
  split
  · exact hk (h.withStack _)
  · exact h.failStep _

theorem Alike.memEnsure (h : Alike V X s s') (off len : Nat) {k : State → StepOut}
    (hk : ∀ {t t'}, Alike V X t t' → AlikeOut V X (k t) (k t')) :
    AlikeOut V X (memEnsure off len s k) (memEnsure off len s' k) := by
  have hensure : s'.mem.ensure s'.cfg.memLimit off len = s.mem.ensure s.cfg.memLimit off len := by rw [h.mem, h.cfg]
  simp only [Machine.memEnsure, hensure]
  split
  · exact hk (h.withMem _)
  · exact h.failStep _

theorem Alike.memRead (h : Alike V X s s') (off len : Nat) {k : List Byte → State → StepOut}
    (hk : ∀ bs {t t'}, Alike V X t t' → AlikeOut V X (k bs t) (k bs t')) :
    AlikeOut V X (memRead off len s k) (memRead off len s' k) :=
  h.memEnsure off len fun {t t'} h => by
    rw [h.mem]
    exact hk _ h

theorem Alike.memWrite (h : Alike V X s s') (off : Nat) (bs : List Byte) {k : State → StepOut}
    (hk : ∀ {t t'}, Alike V X t t' → AlikeOut V X (k t) (k t')) :
    AlikeOut V X (memWrite off bs s k) (memWrite off bs s' k) :=
  h.memEnsure off bs.length fun {t t'} h => by
    rw [h.mem]
    exact hk (h.withMem _)

theorem Alike.validTarget (h : Alike V X s s') (hV : V) (t : Word) : s'.validTarget t = s.validTarget t := by
  obtain ⟨hcode, hvalid⟩ := h.program hV
  rw [State.validTarget, hcode, hvalid, State.validTarget]

theorem Alike.jumpTo (h : Alike V X s s') (hV : V) (t : Word) : AlikeOut V X (jumpTo t s) (jumpTo t s') := by
  simp only [Machine.jumpTo, h.validTarget hV]
  split_ifs
  · exact .next (h.withPc _)
  · exact h.failStep _

theorem Alike.pushContext (h : Alike V X s s') (p : Bool) (r : CtxReg) :
    AlikeOut V X (pushContext p r s) (pushContext p r s') := by
  unfold Machine.pushContext
  split
  · exact h.pushAdvance _ 1
  · exact h.failStep _

/-- A form reads VALID only if it is a jump, and the context only if it is a context instruction. -/
theorem Form.run_alike (f : Form) (hV : f.readsValid = true → V) (hX : f.readsContext = true → X)
    (h : Alike V X s s') : AlikeOut V X (f.run s) (f.run s') := by
  cases f with
  | halts => exact .next h.halt
  | invalid => exact h.failStep .explicitFault
  | unary f => exact h.pop1 fun a _ _ h => h.pushAdvance (f a) 1
  | binary f => exact h.pop2 fun a b _ _ h => h.pushAdvance (f a b) 1
  | ternary f => exact h.pop3 fun a b c _ _ h => h.pushAdvance (f a b c) 1
  | discard => exact h.pop1 fun _ _ _ h => h.advance 1
  | push n w => exact h.pushAdvance w (1 + n)
  | pushPc => simpa only [Form.run, execPc, h.pc] using h.pushAdvance (natWord s.pc) 1
  | pushMsize => simpa only [Form.run, execMsize, h.mem] using h.pushAdvance (natWord s.mem.len) 1
  | dup n => exact h.peek n fun w => h.pushAdvance w 1
  | swap n => exact h.exchange n fun h => h.advance 1
  | txRegister r =>
    obtain ⟨htx, -⟩ := h.context (hX rfl)
    simpa only [Form.run, htx] using h.pushContext s.tx.present (r s.tx)
  | blkRegister r =>
    obtain ⟨-, hblk⟩ := h.context (hX rfl)
    simpa only [Form.run, hblk] using h.pushContext s.blk.present (r s.blk)
  | load => exact h.pop1 fun off _ _ h => h.memRead off.toNat 32 fun bs _ _ h => h.pushAdvance (bytesWord bs) 1
  | hash =>
    exact h.pop2 fun off len _ _ h => h.memRead off.toNat len.toNat fun bs _ _ h =>
      h.pushAdvance (bytesWord (Keccak.digest bs)) 1
  | store bytes => exact h.pop2 fun off v _ _ h => h.memWrite off.toNat (bytes v) fun h => h.advance 1
  | next => exact h.advance 1
  | jump => exact h.pop1 fun target _ _ h => h.jumpTo (hV rfl) target
  | jumpi =>
    refine h.pop2 (k := fun target c s => if conditionHolds c then Machine.jumpTo target s else Machine.advance 1 s)
      fun target c _ _ h => ?_
    split_ifs
    · exact h.jumpTo (hV rfl) target
    · exact h.advance 1

/-- Alike states that agree on the program differ in FAULT and in the context at most. -/
theorem Alike.eq_with (h : Alike True X s s') : s' = { s with fault := s'.fault, tx := s'.tx, blk := s'.blk } := by
  obtain ⟨hcode, hvalid⟩ := h.program trivial
  rw [← h.stack, ← h.pc, ← h.status, ← h.mem, ← h.cfg, ← hcode, ← hvalid]

theorem exec_alike {i : Instr} (hV : i = .jump ∨ i = .jumpi → V) (hX : Claim.readsTx i ∨ Claim.readsBlk i → X)
    (h : Alike V X s s') : AlikeOut V X (exec i s) (exec i s') := by
  rw [exec_eq_run_form, exec_eq_run_form]
  exact (form i).run_alike (hV ∘ isJump_of_readsValid) (hX ∘ readsBank_of_readsContext) h

end

end Sys2Proof.Machine
end

section
/-! SUPPORT. What a step is (40_program_and_loop.md R122): the natural end, or the instruction decoded at pc, whose length
is that of its opcode byte. -/

namespace Sys2Proof.Machine

/-- The lengths of the instructions in opcode order, sixteen to a row: `1 + N` for PUSHN (rows 0x60 and 0x70), 1 elsewhere
(30_encoding.md R91). -/
def rowLengths : List Nat :=
  [1, 1, 1, 1, 1, 1].flatMap (List.replicate 16) ++ List.range' 2 16 ++ List.range' 18 16 ++
  [1, 1, 1, 1, 1, 1, 1, 1].flatMap (List.replicate 16)

theorem opcodeMap_lengths (imm : Word) : opcodeMap.map (fun row => (row imm).length) = rowLengths := by
  simp only [opcodeMap, rowLengths, List.map_append, List.flatMap_cons, List.flatMap_nil, ← List.append_assoc,
    List.append_nil]
  rfl

theorem opLen_lengths : (List.range 256).map (fun op => opLen (BitVec.ofNat 8 op)) = rowLengths := by
  decide +kernel

/-- The decoded instruction is as long as its opcode byte says, whatever follows (R91). -/
theorem decodeOp_length (op : Byte) (rest : List Byte) : (decodeOp op rest).length = opLen op := by
  have h : op.toNat < 256 := op.isLt
  have hmap := congrArg (·[op.toNat]?) ((opcodeMap_lengths (immediate (immLen op) rest)).trans opLen_lengths.symm)
  simpa [decodeOp, List.getElem?_eq_getElem, opcodeMap_length, h] using hmap

theorem opLen_le (op : Byte) : opLen op ≤ 33 := by
  unfold opLen immLen
  split <;> omega

theorem step_of_running {s : State} (h : s.status = .running) : step s = runningStep exec s := by simp [step, h]

/-- The step answers a fault when the run is over (log 4). -/
theorem step_of_not_running {s : State} (h : s.status ≠ .running) : step s = .fault .runOver := by
  cases hs : s.status with
  | running => exact absurd hs h
  | halted => simp [step, hs]
  | failed => simp [step, hs]

theorem running_of_step {s t : State} (h : step s = .next t) : s.status = .running := by
  by_contra hs
  rw [step_of_not_running hs] at h
  cases h

/-- The step at or past the end of the program halts (R124). -/
theorem runningStep_of_end {s : State} (h : s.code.length ≤ s.pc) : runningStep exec s = .next (halt s) := by
  simp [runningStep, State.fetchBytes, List.drop_eq_nil_of_le h, decode]

/-- The step inside the program is the instruction decoded from the bytes at pc. -/
theorem runningStep_of_lt {s : State} (h : s.pc < s.code.length) :
    runningStep exec s = exec (decodeOp s.code[s.pc] (s.code.drop (s.pc + 1))) s := by
  rw [runningStep, State.fetchBytes, List.drop_eq_getElem_cons h]
  rfl

/-- Everything a step that gives a next state can be. -/
theorem step_cases {s t : State} (h : step s = .next t) :
    (s.code.length ≤ s.pc ∧ t = halt s) ∨
    (∃ i b, s.code[s.pc]? = some b ∧ i.length = opLen b ∧ exec i s = .next t) := by
  rw [step_of_running (running_of_step h)] at h
  rcases Nat.lt_or_ge s.pc s.code.length with hpc | hpc
  · rw [runningStep_of_lt hpc] at h
    exact .inr ⟨_, _, List.getElem?_eq_getElem hpc, decodeOp_length _ _, h⟩
  · rw [runningStep_of_end hpc] at h
    cases h
    exact .inl ⟨hpc, rfl⟩

/-- A step reads nothing but the fields on which the two states agree. -/
theorem step_alike {s s' : State} (hs : s.status = .running) (h : Alike True True s s') :
    AlikeOut True True (step s) (step s') := by
  obtain ⟨hcode, -⟩ := h.program trivial
  rw [step_of_running hs, step_of_running (h.status.trans hs)]
  rcases Nat.lt_or_ge s.pc s.code.length with hpc | hpc
  · rw [runningStep_of_lt hpc, runningStep_of_lt (by rwa [hcode, h.pc])]
    simp only [hcode, h.pc]
    exact exec_alike (fun _ => trivial) (fun _ => trivial) h
  · rw [runningStep_of_end hpc, runningStep_of_end (by rwa [hcode, h.pc])]
    exact .next h.halt

end Sys2Proof.Machine
end

section
/-! SUPPORT. What every instruction and every step keeps, from the inversions `exec_does` and `step_cases`. -/

namespace Sys2Proof.Machine

/-- `t` has what the host loaded into `s`, and its FAULT unless it failed (10_state.md R21, R27, R30, R31, R33). -/
structure Frame (s t : State) : Prop where
  code : t.code = s.code
  valid : t.valid = s.valid
  tx : t.tx = s.tx
  blk : t.blk = s.blk
  cfg : t.cfg = s.cfg
  fault : t.status ≠ .failed → t.fault = s.fault

theorem Does.frame {s t : State} {n : Nat} (h : Does s n (.next t)) : Frame s t := by
  cases h with
  | halts => exact ⟨rfl, rfl, rfl, rfl, rfl, fun _ => rfl⟩
  | fails => exact ⟨rfl, rfl, rfl, rfl, rfl, fun h => absurd rfl h⟩
  | goes => exact ⟨rfl, rfl, rfl, rfl, rfl, fun _ => rfl⟩

/-- An instruction that ends the run leaves pc where it was (10_state.md R25, decision D17). -/
theorem Does.pc_of_ended {s t : State} {n : Nat} (h : Does s n (.next t)) (hs : s.status = .running)
    (ht : t.status ≠ .running) : t.pc = s.pc := by
  cases h with
  | halts => rfl
  | fails => rfl
  | goes => exact absurd hs ht

theorem Does.pc_of_running {s t : State} {n : Nat} (h : Does s n (.next t)) (ht : t.status = .running) :
    t.pc = s.pc + n ∨ ∃ w, s.validTarget w = true ∧ t.pc = w.toNat := by
  cases h with
  | halts => cases ht
  | fails => cases ht
  | goes st m p hst hm hp => exact hp

theorem exec_next_does {i : Instr} {s t : State} (h : exec i s = .next t) : Does s i.length (.next t) :=
  h ▸ exec_does i s

theorem step_frame {s t : State} (h : step s = .next t) : Frame s t := by
  rcases step_cases h with ⟨-, rfl⟩ | ⟨i, b, -, -, h⟩
  · exact Does.frame (n := 0) .halts
  · exact (exec_next_does h).frame

theorem step_pc_of_ended {s t : State} (h : step s = .next t) (ht : t.status ≠ .running) : t.pc = s.pc := by
  rcases step_cases h with ⟨-, rfl⟩ | ⟨i, b, -, -, hx⟩
  · rfl
  · exact (exec_next_does hx).pc_of_ended (running_of_step h) ht

/-- A jump lands on an offset of VALID inside the program (40_program_and_loop.md R121). -/
theorem validTarget_iff (s : State) (w : Word) :
    s.validTarget w = true ↔ w.toNat < s.code.length ∧ w.toNat ∈ s.valid := by
  simp [State.validTarget]

/-- VALID as the scan builds it: the visited offsets whose byte is the marker (R120). -/
theorem mem_validDestinations (code : List Byte) (p : Nat) :
    p ∈ validDestinations code ↔ p ∈ opcodeOffsets code ∧ code[p]? = some jumpdestByte :=
  mem_validFrom

end Sys2Proof.Machine
end

section
/-! O3, O2. The invariant. -/

namespace Sys2Proof.Machine

theorem halt_inv {s : State} (h : s.Inv) (hs : s.status = .running) : (halt s).Inv :=
  { h with fault_iff := by simp [h.fault_iff, hs] }

/-- From an opcode of the program, pc + len(op) is the next opcode the scan visits or is past the end (R98). -/
theorem next_pc_on_opcode {s : State} {b : Byte} (h : s.Inv) (hb : s.code[s.pc]? = some b) :
    s.pc + opLen b ∈ opcodeOffsets s.code ∨ s.code.length ≤ s.pc + opLen b := by
  have hpc : s.pc < s.code.length := (List.getElem?_eq_some_iff.1 hb).1
  rcases Nat.lt_or_ge (s.pc + opLen b) s.code.length with hlt | hge
  · exact .inl (next_mem_opcodeOffsetsFrom (h.pc_on_opcode.resolve_right (by omega)) (by simpa using hb) (by omega))
  · exact .inr hge

/-- A valid target is an offset the scan visited. -/
theorem target_on_opcode {s : State} {w : Word} (h : s.Inv) (hw : s.validTarget w = true) :
    w.toNat ∈ opcodeOffsets s.code := by
  obtain ⟨-, hmem⟩ := (validTarget_iff s w).1 hw
  rw [h.valid_eq, mem_validDestinations] at hmem
  exact hmem.1

/-- The two clauses about pc, for the next pc of an instruction whose opcode byte is at pc. -/
theorem goes_pc_inv {s : State} {b : Byte} {p : Nat} (h : s.Inv) (hb : s.code[s.pc]? = some b)
    (hp : p = s.pc + opLen b ∨ ∃ w, s.validTarget w = true ∧ p = w.toNat) :
    p ≤ s.code.length + Config.pushMax ∧ (p ∈ opcodeOffsets s.code ∨ s.code.length ≤ p) := by
  rcases hp with rfl | ⟨w, hw, rfl⟩
  · have hpc : s.pc < s.code.length := (List.getElem?_eq_some_iff.1 hb).1
    have hlen := opLen_le b
    exact ⟨by unfold Config.pushMax; omega, next_pc_on_opcode h hb⟩
  · have hlt := ((validTarget_iff s w).1 hw).1
    exact ⟨by omega, .inl (target_on_opcode h hw)⟩

theorem Does.inv {s t : State} {n : Nat} {b : Byte} (h : s.Inv) (hs : s.status = .running)
    (hb : s.code[s.pc]? = some b) (hn : n = opLen b) (hd : Does s n (.next t)) : t.Inv := by
  subst hn
  have hdepth : s.stack.length ≤ 1024 := h.depth_le
  cases hd with
  | halts => exact halt_inv h hs
  | fails k st m hst hm _ =>
    obtain ⟨-, hwf, hlimit⟩ := hm
    exact { h with
      depth_le := hst.length_le.trans hdepth
      mem_wf := hwf h.mem_wf
      mlen_le := hlimit h.mlen_le
      fault_iff := by simp }
  | goes st m p hst hm hp =>
    obtain ⟨-, hwf, hlimit⟩ := hm
    obtain ⟨hle, hon⟩ := goes_pc_inv h hb hp
    exact { h with
      depth_le := hst hdepth
      mem_wf := hwf h.mem_wf
      mlen_le := hlimit h.mlen_le
      pc_le := hle
      pc_on_opcode := hon }

/-- Settles O3: the natural end changes STATUS alone; an instruction does what `Does` lists, and the scan
argument of 30_encoding.md R98 keeps pc on an opcode. -/
theorem stepKeepsTheInvariant : Obligations.StepKeepsTheInvariant := by
  intro s t h hstep
  have hs := running_of_step hstep
  rcases step_cases hstep with ⟨-, rfl⟩ | ⟨i, b, hb, hlen, hexec⟩
  · exact halt_inv h hs
  · exact Does.inv h hs hb hlen (exec_next_does hexec)

/-- pc 0 is the first opcode of a program that is not empty. -/
theorem zero_on_opcode (code : List Byte) : 0 ∈ opcodeOffsets code ∨ code.length ≤ 0 := by
  cases code with
  | nil => exact .inr le_rfl
  | cons b bs => exact .inl List.mem_cons_self

theorem start_inv {l : Loaded} (h : l.code.length ≤ l.cfg.codeMax) : (start l).Inv where
  depth_le := Nat.zero_le _
  mem_wf := rfl
  mlen_le := Nat.zero_le _
  code_le := h
  valid_eq := rfl
  pc_le := Nat.zero_le _
  pc_on_opcode := zero_on_opcode l.code
  fault_iff := by simp [start]

theorem reset_eq_start : State.reset = start (Loaded.none resetConfig) := rfl

/-- Settles O2: State.reset is a start, and every start of a program that fits meets each clause. -/
theorem resetMeetsTheInvariant : Obligations.ResetMeetsTheInvariant :=
  ⟨reset_eq_start ▸ start_inv (Nat.zero_le _), reset_eq_start, fun _ => start_inv⟩

end Sys2Proof.Machine
end

section
/-! O52, O55, O56, O57. Frames and noninterference. -/

namespace Sys2Proof.Machine

open Sys2Proof.Claim

/-- An instruction other than JUMP and JUMPI that goes on goes to pc + len(op): it runs the same with VALID emptied, where
no target is valid. -/
theorem exec_falls_through {i : Instr} {s t : State} (hj : ¬ (i = .jump ∨ i = .jumpi)) (h : exec i s = .next t)
    (ht : t.status = .running) : t.pc = s.pc + i.length := by
  have hs : Alike False True s { s with valid := [] } :=
    ⟨rfl, rfl, rfl, rfl, rfl, fun _ => rfl, False.elim, fun _ => ⟨rfl, rfl⟩⟩
  obtain ⟨t₀, t', h₀, h', ha⟩ := exec_alike hj (fun _ => trivial) hs
  obtain rfl : t = t₀ := by simpa [h] using h₀
  have hpc := (exec_next_does h').pc_of_running (ha.status.trans ht)
  simpa [validTarget_iff, ha.pc] using hpc

/-- Settles O52: the pc of an instruction that ends the run from `Does`, the pc of one that does not read VALID from
`exec_falls_through`. -/
theorem onlyJumpsTransferControl : Obligations.OnlyJumpsTransferControl := by
  intro i s t _ hs h
  refine ⟨(exec_next_does h).pc_of_ended hs, fun ht hj hji => exec_falls_through (by simp [hj, hji]) h ht, fun ht => ?_⟩
  rcases (exec_next_does h).pc_of_running ht with hpc | ⟨w, hw, hpc⟩
  · exact .inl hpc
  · exact .inr (hpc ▸ ((validTarget_iff s w).1 hw).2)

/-- Settles O55: the frame of a step. -/
theorem noInstructionWritesWhatTheHostLoaded : Obligations.NoInstructionWritesWhatTheHostLoaded := by
  intro s t h
  obtain ⟨hcode, hvalid, htx, hblk, hcfg, hfault⟩ := step_frame h
  exact ⟨hcode, hvalid, htx, hblk, hcfg, hfault⟩

/-- Settles O56: the two runs agree on what such an instruction reads, and no instruction writes the banks. -/
theorem onlyContextInstructionsReadTheContext : Obligations.OnlyContextInstructionsReadTheContext := by
  intro i s t tx blk htx hblk h
  have hs : Alike True False s { s with tx := tx, blk := blk } :=
    ⟨rfl, rfl, rfl, rfl, rfl, fun _ => rfl, fun _ => ⟨rfl, rfl⟩, False.elim⟩
  obtain ⟨t₀, t', h₀, h', ha⟩ := exec_alike (i := i) (fun _ => trivial) (not_or.2 ⟨htx, hblk⟩) hs
  obtain rfl : t = t₀ := by simpa [h] using h₀
  have hframe := (exec_next_does h).frame
  have hframe' := (exec_next_does h').frame
  have hfault : t'.fault = t.fault := by
    by_cases ht : t.status = .failed
    · exact ha.fault ht
    · rw [hframe.fault ht, hframe'.fault (ha.status ▸ ht)]
  rw [h', ha.eq_with, hfault, hframe'.tx, hframe'.blk]

/-- Settles O57: the two runs agree on everything else, and a step reads nothing else. -/
theorem faultRegisterInfluencesNothing : Obligations.FaultRegisterInfluencesNothing := by
  intro s t f h
  have hrun := running_of_step h
  have hs : Alike True True s { s with fault := f } :=
    ⟨rfl, rfl, rfl, rfl, rfl, by simp [hrun], fun _ => ⟨rfl, rfl⟩, fun _ => ⟨rfl, rfl⟩⟩
  obtain ⟨t₀, t', h₀, h', ha⟩ := step_alike hrun hs
  obtain rfl : t = t₀ := by simpa [h] using h₀
  obtain ⟨htx, hblk⟩ := ha.context trivial
  exact ⟨t'.fault, by rw [h', ← htx, ← hblk, ← ha.eq_with]⟩

end Sys2Proof.Machine
end

section
/-! O1, O10, O14, O58, O59, O60. The start of a run, the host's loads and what it reads. -/

namespace Sys2Proof.Machine

open Sys2Proof.Claim

/-- Settles O10: STATUS is tested before anything else. -/
theorem noStepAfterTheRunIsOver : Obligations.NoStepAfterTheRunIsOver := fun _ => step_of_not_running

theorem exec_pushInstrs {p : Nat × (Word → Instr)} (hp : p ∈ pushInstrs) (imm : Word) (s : State) :
    exec (p.2 imm) s = pushImm p.1 imm s := by
  fin_cases hp <;> rfl

/-- Settles O14: each of the 32 is `pushImm`, and the stack bound decides the push. -/
theorem pushPushesItsImmediate : Obligations.PushPushesItsImmediate := by
  intro p hp imm s
  rw [exec_pushInstrs hp, pushImm]
  exact ⟨push_of_lt, fun h => push_of_ge h.ge⟩

/-- The jump test at the start of a run is that of 40_program_and_loop.md R121. -/
theorem start_validTarget_iff (l : Loaded) (t : Word) :
    (start l).validTarget t = true ↔ ValidDestination l.code t := by
  rw [validTarget_iff]
  exact and_congr_right fun _ => (mem_validDestinations l.code t.toNat).trans and_comm

@[simp] theorem load_present (field : Option Word) : (CtxReg.load field).present = field.isSome := by
  cases field <;> rfl

/-- Settles O1: the jump test is `start_validTarget_iff`, and a register's presence bit is that of its field. -/
theorem startSetsTheResetState : Obligations.StartSetsTheResetState := by
  refine ⟨fun l => ⟨rfl, fun k => ?_, rfl, rfl, rfl, rfl, rfl, rfl, fun a => rfl, rfl, start_validTarget_iff l, rfl, rfl,
    rfl⟩, fun l => ⟨rfl, rfl, rfl, rfl, rfl⟩, fun l => ⟨rfl, rfl, rfl, rfl, rfl, rfl, rfl, rfl⟩, ?_, ?_⟩
  · cases k <;> rfl
  · simp [Loaded.loadTx]
  · simp [Loaded.loadBlock]

@[simp] theorem load_holdsField (field : Option Word) : HoldsField (.load field) field := by
  cases field with
  | none => rfl
  | some w => exact ⟨rfl, rfl⟩

theorem betweenRuns_of_running {s : State} (h : s.status = .running) : s.betweenRuns = none := by
  simp [State.betweenRuns, State.done, h]

theorem betweenRuns_of_over {s : State} (h : s.status ≠ .running) :
    s.betweenRuns = some { code := s.code, tx := s.tx, blk := s.blk, cfg := s.cfg } := by
  simp [State.betweenRuns, State.done, h]

/-- Settles O58: each register holds its own field by `load_holdsField`. -/
theorem hostLoadsBetweenRunsOnly : Obligations.HostLoadsBetweenRunsOnly := by
  refine ⟨fun l bytes => ⟨fun h => if_pos h, fun h => if_neg (by omega)⟩, ?_, ?_, fun l => ⟨rfl, rfl⟩, fun l t => ?_,
    fun l b => ?_, fun l t v g d => rfl, fun s => betweenRuns_of_running, fun s => betweenRuns_of_over⟩
  · simp [Loaded.loadTx]
  · simp [Loaded.loadBlock]
  · cases t <;> exact ⟨rfl, rfl, rfl⟩
  · cases b <;> exact ⟨rfl, rfl, rfl⟩

/-- Settles O59: by the three values of STATUS, and by `entry_eq_none_iff` for `S[k]`. -/
theorem resultIsTheStackAndSuccess : Obligations.ResultIsTheStackAndSuccess := by
  refine ⟨fun s => ?_, fun s h => ?_, fun s h => ?_, fun s k h1 hk => ?_, fun s k => (entry_eq_none_iff s k).2,
    fun l => rfl, fun s t => running_of_step⟩
  · cases hs : s.status <;> simp [State.result, Status.success, hs]
  · simp [State.result, Status.success, h]
  · simp [State.result, Status.success, h]
  · obtain ⟨j, rfl⟩ := Nat.exists_eq_add_of_le' h1
    exact ⟨rfl, by rw [ne_eq, entry_eq_none_iff, ← depth_eq]; omega⟩

theorem faultCode_of_none {s : State} (h : s.fault = none) : s.faultCode = 0 := by simp [State.faultCode, h]

theorem faultCode_of_some {s : State} {k : FailureKind} (h : s.fault = some k) : s.faultCode = k.code := by
  simp [State.faultCode, h]

theorem diag_of_running {s : State} (h : s.status = .running) : s.diag = none := by simp [State.diag, State.done, h]

theorem diag_of_over {s : State} (h : s.status ≠ .running) : s.diag = some { fault := s.faultCode, pc := s.pc } := by
  simp [State.diag, State.done, h]

/-- Settles O60: a step that fails leaves pc on the failing instruction by `step_pc_of_ended`. -/
theorem diagnosticsAreTheFaultCodeAndThePc : Obligations.DiagnosticsAreTheFaultCodeAndThePc := by
  refine ⟨fun s => ⟨faultCode_of_none, faultCode_of_some, faultCode_of_some, faultCode_of_some, faultCode_of_some,
    faultCode_of_some, faultCode_of_some⟩, fun s => diag_of_running, fun s => diag_of_over, fun s t k h ht hk => ?_⟩
  have hover : t.status ≠ .running := by simp [ht]
  rw [diag_of_over hover, faultCode_of_some hk, step_pc_of_ended h hover]

end Sys2Proof.Machine
end

section
/-! SUPPORT. Memory as its bytes read: what MemEnsure, MemSlice and a store leave (20_memory.md R62 to R66). -/

namespace Sys2Proof.Machine

theorem byte?_of_lt {m : Memory} {a : Nat} (h : a < m.len) : m.byte? a = some (cellsRead m.cells a) := if_pos h

/-- Memory that lists the same bytes and is no shorter keeps every byte that existed. -/
theorem byte?_of_cells_eq {m m' : Memory} {a : Nat} (hc : m'.cells = m.cells) (hl : m.len ≤ m'.len) (ha : a < m.len) :
    m'.byte? a = m.byte? a := by
  rw [byte?_of_lt (ha.trans_le hl), byte?_of_lt ha, hc]

/-- A byte that appears while the listed bytes stay is zero: canonical memory lists none at MLEN or above. -/
theorem byte?_of_new {m m' : Memory} {a : Nat} (hw : m.wf = true) (hc : m'.cells = m.cells) (ha : m.len ≤ a)
    (ha' : a < m'.len) : m'.byte? a = some 0 := by
  obtain ⟨-, hok⟩ := (wf_iff m).1 hw
  rw [byte?_of_lt ha', hc, cellsRead_of_ge hok ha]

theorem ensure_of_le {limit off len : Nat} {m : Memory} (h : off + len ≤ m.len) : m.ensure limit off len = some m := by
  simp [Memory.ensure, Nat.not_lt.2 h]

theorem ensure_of_tooFar {limit off len : Nat} {m : Memory} (h : m.len < off + len) (hlimit : limit < off + len) :
    m.ensure limit off len = none := by
  simp [Memory.ensure, h, hlimit]

/-- A window within MLEN or MEM_LIMIT is granted. -/
theorem ensure_of_fits {limit off len : Nat} {m : Memory} (h : off + len ≤ m.len ∨ off + len ≤ limit) :
    ∃ m', m.ensure limit off len = some m' := by
  rcases ensure_cases limit off len m with ⟨-, e⟩ | ⟨hlt, hlimit, -⟩ | ⟨-, -, e⟩
  · exact ⟨_, e⟩
  · omega
  · exact ⟨_, e⟩

/-- The length after MemEnsure: rounded up to the next multiple of 32 when it grows. -/
theorem ensure_len {limit off len : Nat} {m m' : Memory} (h : m.ensure limit off len = some m') :
    m'.len = if m.len < off + len then 32 * ((off + len + 31) / 32) else m.len := by
  rcases ensure_cases limit off len m with ⟨hle, e⟩ | ⟨-, -, e⟩ | ⟨hlt, -, e⟩
  · obtain rfl : m' = m := by simpa [h] using e
    rw [if_neg hle.not_gt]
  · cases h.symm.trans e
  · cases h.symm.trans e
    rw [if_pos hlt]

/-- The bytes stored are the bytes read back. -/
theorem slice_store {m : Memory} {off : Nat} {bs : List Byte} (hw : m.wf = true) (hb : off + bs.length ≤ m.len) :
    (m.store off bs).slice off bs.length = bs := by
  refine List.ext_getElem (slice_length _ _ _) fun i _ hi => Option.some.inj ?_
  rw [← List.getElem?_eq_getElem, slice_getElem? _ _ _ _ hi, cellsRead_store hw hb, if_pos (by omega)]
  simp [hi]

/-- Byte `i` of the Word read from 32 bytes is the `i`-th of them (20_memory.md R69). -/
theorem byteOf_bytesWord {bs : List Byte} {i : Nat} (h : bs.length = 32) (hi : i < 32) :
    bs[i]? = some (Claim.byteOf (bytesWord bs) i) := by
  have hbyte := natToBytes_getElem? 32 (bytesWord bs).toNat i hi
  rwa [← wordBytes, wordBytes_bytesWord h] at hbyte

end Sys2Proof.Machine
end

section
/-! SUPPORT. The memory instructions on a window that MemEnsure grants (44_memory_hash.md R260 to R262). -/

namespace Sys2Proof.Machine

open Sys2Proof.Claim

variable {s : State} {off v : Word} {rest : List Word} {m : Memory}

theorem memEnsure_of_some {addr len : Nat} (hm : s.mem.ensure s.cfg.memLimit addr len = some m) (k : State → StepOut) :
    memEnsure addr len s k = k { s with mem := m } := by
  simp [memEnsure, hm]

theorem exec_mload_of_ensure (hs : s.stack = off :: rest) (hd : rest.length < 1024)
    (hm : s.mem.ensure s.cfg.memLimit off.toNat 32 = some m) :
    exec .mload s = .next { goesOn (bytesWord (m.slice off.toNat 32) :: rest) 1 s with mem := m } := by
  change execMload s = _
  rw [execMload, pop1_cons hs, memRead_eq, memEnsure_of_some (s := { s with stack := rest }) hm, push_of_lt hd, advance_eq]
  rfl

theorem store_of_ensure {bytes : Word → List Byte} (hs : s.stack = off :: v :: rest)
    (hm : s.mem.ensure s.cfg.memLimit off.toNat (bytes v).length = some m) :
    Form.run (.store bytes) s = .next { goesOn rest 1 s with mem := m.store off.toNat (bytes v) } := by
  rw [Form.run, pop2_cons hs, memWrite_eq, memEnsure_of_some (s := { s with stack := rest }) hm, advance_eq]
  rfl

theorem exec_mstore_of_ensure (hs : s.stack = off :: v :: rest)
    (hm : s.mem.ensure s.cfg.memLimit off.toNat 32 = some m) :
    exec .mstore s = .next { goesOn rest 1 s with mem := m.store off.toNat (wordBytes v) } := by
  rw [exec_eq_run_form]
  exact store_of_ensure hs (by rwa [wordBytes_length])

theorem exec_mstore8_of_ensure (hs : s.stack = off :: v :: rest)
    (hm : s.mem.ensure s.cfg.memLimit off.toNat 1 = some m) :
    exec .mstore8 s = .next { goesOn rest 1 s with mem := m.store off.toNat [v.setWidth 8] } := by
  rw [exec_eq_run_form]
  exact store_of_ensure hs hm

end Sys2Proof.Machine
end

section
/-! SUPPORT. What an instruction keeps of memory, form by form: a property of memory that growth keeps, where the form
accesses memory, and that a store keeps, where the form stores. -/

namespace Sys2Proof.Machine

/-- The next state, if the step gives one, has memory with the property `P`. -/
def MemAfter (P : Memory → Prop) (o : StepOut) : Prop := ∀ t, o = .next t → P t.mem

/-- MemEnsure keeps `P` (20_memory.md R62). -/
def KeptByGrowth (P : Memory → Prop) : Prop :=
  ∀ {limit off len : Nat} {m m' : Memory}, m.ensure limit off len = some m' → P m → P m'

/-- A store keeps `P` (R64). -/
def KeptByStores (P : Memory → Prop) : Prop := ∀ (m : Memory) (off : Nat) (bs : List Byte), P m → P (m.store off bs)

/-- Whether a form calls MemEnsure (44_memory_hash.md R260 to R262, R264). -/
def Form.accessesMemory : Form → Bool
  | .load | .hash | .store _ => true
  | _ => false

/-- Whether a form stores bytes (R261, R262). -/
def Form.stores : Form → Bool
  | .store _ => true
  | _ => false

section
variable {P : Memory → Prop} {s : State}

theorem MemAfter.next (h : P s.mem) : MemAfter P (.next s) := by
  rintro t ⟨⟩
  exact h

theorem MemAfter.advance (h : P s.mem) (n : Nat) : MemAfter P (advance n s) := .next h

theorem MemAfter.push (h : P s.mem) (w : Word) (n : Nat) : MemAfter P (Machine.push w s (Machine.advance n)) := by
  rcases push_cases w s (Machine.advance n) with ⟨-, e⟩ | ⟨-, e⟩ <;> rw [e]
  · exact .next h
  · exact .next h

theorem MemAfter.pop1 (h : P s.mem) {k : Word → State → StepOut}
    (hk : ∀ a {t : State}, P t.mem → MemAfter P (k a t)) : MemAfter P (pop1 s k) := by
  rcases pop1_cases s k with ⟨a, rest, -, e⟩ | ⟨-, e⟩ <;> rw [e]
  · exact hk a h
  · exact .next h

theorem MemAfter.pop2 (h : P s.mem) {k : Word → Word → State → StepOut}
    (hk : ∀ a b {t : State}, P t.mem → MemAfter P (k a b t)) : MemAfter P (pop2 s k) := by
  rcases pop2_cases s k with ⟨a, b, rest, -, e⟩ | ⟨-, e⟩ <;> rw [e]
  · exact hk a b h
  · exact .next h

theorem MemAfter.pop3 (h : P s.mem) {k : Word → Word → Word → State → StepOut}
    (hk : ∀ a b c {t : State}, P t.mem → MemAfter P (k a b c t)) : MemAfter P (pop3 s k) := by
  rcases pop3_cases s k with ⟨a, b, c, rest, -, e⟩ | ⟨-, e⟩ <;> rw [e]
  · exact hk a b c h
  · exact .next h

theorem MemAfter.peek (h : P s.mem) (n : Nat) {k : Word → StepOut} (hk : ∀ w, MemAfter P (k w)) :
    MemAfter P (peek n s k) := by
  unfold Machine.peek
  split
  · exact hk _
  · exact .next h

theorem MemAfter.exchange (h : P s.mem) (n : Nat) : MemAfter P (exchange n s (Machine.advance 1)) := by
  rcases exchange_cases n s (Machine.advance 1) with ⟨t, w, -, -, -, e⟩ | ⟨-, e⟩ <;> rw [e]
  · exact .next h
  · exact .next h

theorem MemAfter.jumpTo (h : P s.mem) (t : Word) : MemAfter P (jumpTo t s) := by
  rcases jumpTo_cases t s with ⟨-, e⟩ | ⟨-, e⟩ <;> rw [e]
  · exact .next h
  · exact .next h

theorem MemAfter.pushContext (h : P s.mem) (p : Bool) (r : CtxReg) : MemAfter P (pushContext p r s) := by
  rcases pushContext_cases p r s with ⟨-, e⟩ | ⟨-, e⟩ <;> rw [e]
  · exact .push h _ 1
  · exact .next h

theorem MemAfter.memEnsure (h : P s.mem) (hgrow : KeptByGrowth P) (off len : Nat)
    {k : State → StepOut} (hk : ∀ {t : State}, P t.mem → MemAfter P (k t)) : MemAfter P (memEnsure off len s k) := by
  rcases memEnsure_cases off len s k with ⟨m, hm, e⟩ | ⟨-, -, e⟩ <;> rw [e]
  · exact hk (hgrow hm h)
  · exact .next h

theorem MemAfter.memRead (h : P s.mem) (hgrow : KeptByGrowth P) (off len : Nat)
    {k : List Byte → State → StepOut} (hk : ∀ bs {t : State}, P t.mem → MemAfter P (k bs t)) :
    MemAfter P (memRead off len s k) :=
  .memEnsure h hgrow off len fun h => hk _ h

theorem MemAfter.memWrite (h : P s.mem) (hgrow : KeptByGrowth P) (hstore : KeptByStores P) (off : Nat) (bs : List Byte)
    {k : State → StepOut} (hk : ∀ {t : State}, P t.mem → MemAfter P (k t)) : MemAfter P (memWrite off bs s k) :=
  .memEnsure h hgrow off bs.length fun {t} h => hk (hstore t.mem off bs h)

/-- Memory changes by growth in the forms that access it and by stores in those that store, and not otherwise. -/
theorem Form.run_memAfter (f : Form) (hgrow : f.accessesMemory = true → KeptByGrowth P)
    (hstore : f.stores = true → KeptByStores P) (h : P s.mem) : MemAfter P (f.run s) := by
  cases f with
  | halts => exact .next h
  | invalid => exact .next h
  | unary f => exact .pop1 h fun a _ h => .push h (f a) 1
  | binary f => exact .pop2 h fun a b _ h => .push h (f a b) 1
  | ternary f => exact .pop3 h fun a b c _ h => .push h (f a b c) 1
  | discard => exact .pop1 h fun _ _ h => .advance h 1
  | push n w => exact .push h w (1 + n)
  | pushPc => exact .push h (natWord s.pc) 1
  | pushMsize => exact .push h (natWord s.mem.len) 1
  | dup n => exact .peek h n fun w => .push h w 1
  | swap n => exact .exchange h n
  | txRegister r => exact .pushContext h s.tx.present (r s.tx)
  | blkRegister r => exact .pushContext h s.blk.present (r s.blk)
  | load =>
    exact .pop1 h fun off _ h => .memRead h (hgrow rfl) off.toNat 32 fun bs _ h => .push h (bytesWord bs) 1
  | hash =>
    exact .pop2 h fun off len _ h => .memRead h (hgrow rfl) off.toNat len.toNat fun bs _ h =>
      .push h (bytesWord (Keccak.digest bs)) 1
  | store bytes =>
    exact .pop2 h fun off v _ h => .memWrite h (hgrow rfl) (hstore rfl) off.toNat (bytes v) fun h => .advance h 1
  | next => exact .advance h 1
  | jump => exact .pop1 h fun target _ h => .jumpTo h target
  | jumpi =>
    refine .pop2 h (k := fun target c s => if conditionHolds c then Machine.jumpTo target s else Machine.advance 1 s)
      fun target c _ h => ?_
    split_ifs
    · exact .jumpTo h target
    · exact .advance h 1

end

theorem isMemoryInstr_of_accessesMemory {i : Instr} (h : (form i).accessesMemory = true) :
    i ∈ [Instr.mload, .mstore, .mstore8, .keccak256] := by
  cases i
  case mload | mstore | mstore8 | keccak256 => simp
  all_goals cases h

theorem isStore_of_stores {i : Instr} (h : (form i).stores = true) : i = .mstore ∨ i = .mstore8 := by
  cases i
  case mstore => exact .inl rfl
  case mstore8 => exact .inr rfl
  all_goals cases h

variable {i : Instr} {s t : State}

theorem exec_mem_of_not_memoryInstr (hi : i ∉ [Instr.mload, .mstore, .mstore8, .keccak256])
    (h : exec i s = .next t) : t.mem = s.mem := by
  have haccess := mt isMemoryInstr_of_accessesMemory hi
  have hstores : ¬ (form i).stores = true := fun hst => by
    rcases isStore_of_stores hst with rfl | rfl
    · simp at hi
    · simp at hi
  rw [exec_eq_run_form] at h
  exact Form.run_memAfter (P := (· = s.mem)) (form i) (absurd · haccess) (absurd · hstores) rfl t h

theorem exec_cells_of_not_store (hi : ¬ (i = .mstore ∨ i = .mstore8)) (h : exec i s = .next t) :
    t.mem.cells = s.mem.cells := by
  rw [exec_eq_run_form] at h
  refine Form.run_memAfter (P := (·.cells = s.mem.cells)) (form i) (fun _ {_ _ _ _ _} he hm => ?_)
    (absurd · (mt isStore_of_stores hi)) rfl t h
  obtain ⟨hcells, -⟩ := ensure_spec he
  exact hcells.trans hm

theorem Does.mlen_le {n : Nat} (h : Does s n (.next t)) : s.mem.len ≤ t.mem.len := by
  cases h with
  | halts => exact le_rfl
  | fails k st m _ hm _ =>
    obtain ⟨hlen, -⟩ := hm
    exact hlen
  | goes st m p _ hm _ =>
    obtain ⟨hlen, -⟩ := hm
    exact hlen

end Sys2Proof.Machine
end

section
/-! O30, O38, O39, O54. Data memory. -/

namespace Sys2Proof.Machine

open Sys2Proof.Claim

/-- Settles O30: MemEnsure keeps the listed bytes, and rounds the length up as `ensure_len` says. -/
theorem memEnsureGrowsInUnitsOfZeros : Obligations.MemEnsureGrowsInUnitsOfZeros := by
  refine fun c off len m hw => ⟨ensure_of_le, ensure_of_tooFar, fun hlt hle => ?_⟩
  obtain ⟨m', he⟩ := ensure_of_fits (m := m) (.inr hle)
  obtain ⟨hcells, hgrown, hend, hwf, hlimit⟩ := ensure_spec he
  have hlen := ensure_len he
  rw [if_pos hlt] at hlen
  exact ⟨m', he, by omega, hend, by omega, hlimit (memLimit_mod c) (by omega),
    fun a => byte?_of_cells_eq hcells hgrown, fun a => byte?_of_new hw hcells, hwf hw⟩

/-- Settles O38: the window MSTORE was granted needs no growth, and MLOAD reads back the bytes of the Word. -/
theorem mstoreThenMloadReturnsTheWord : Obligations.MstoreThenMloadReturnsTheWord := by
  intro s off v rest hw hd hs hfits
  obtain ⟨m, hm⟩ := ensure_of_fits hfits
  obtain ⟨-, -, hend, hwf, -⟩ := ensure_spec hm
  have hrest : rest.length < 1024 := by simp [hs] at hd; omega
  have hload : (m.store off.toNat (wordBytes v)).slice off.toNat 32 = wordBytes v := by
    simpa using slice_store (hwf hw) (bs := wordBytes v) (by simpa using hend)
  refine ⟨_, exec_mstore_of_ensure hs hm, ?_⟩
  rw [exec_mload_of_ensure rfl hrest (ensure_of_le (by simpa using hend)), hload, bytesWord_wordBytes]
  rfl

/-- Settles O39: MLOAD at `b` reads the byte stored at `a` as the byte `a - b` of its window. -/
theorem mstore8ThenMloadPlacesTheByte : Obligations.Mstore8ThenMloadPlacesTheByte := by
  intro s a b v rest hw hd hs hba hab hfa hfb
  obtain ⟨m, hm⟩ := ensure_of_fits hfa
  obtain ⟨-, hgrown, hend, hwf, -⟩ := ensure_spec hm
  have hrest : rest.length < 1024 := by simp [hs] at hd; omega
  obtain ⟨m', hm'⟩ : ∃ m', (m.store a.toNat [v.setWidth 8]).ensure s.cfg.memLimit b.toNat 32 = some m' :=
    ensure_of_fits (hfb.imp_left fun h => by rw [store_len]; exact h.trans hgrown)
  obtain ⟨hcells, -⟩ := ensure_spec hm'
  refine ⟨_, _, _, exec_mstore8_of_ensure hs hm, exec_mload_of_ensure rfl hrest hm', rfl, Option.some.inj ?_⟩
  calc some (byteOf (bytesWord (m'.slice b.toNat 32)) (a.toNat - b.toNat))
      = (m'.slice b.toNat 32)[a.toNat - b.toNat]? := (byteOf_bytesWord (slice_length _ _ _) (by omega)).symm
    _ = some (cellsRead (m.store a.toNat [v.setWidth 8]).cells a.toNat) := by
        rw [slice_getElem? _ _ _ _ (by omega), hcells, Nat.add_sub_cancel' hba]
    _ = some (v.setWidth 8) := by rw [cellsRead_store (hwf hw) hend]; simp
    _ = some (BitVec.ofNat 8 (v.toNat % 256)) := congrArg some (BitVec.eq_of_toNat_eq (by simp))

/-- Settles O54: the listed bytes stay in a form that stores nothing, and memory stays in one that does not access it. -/
theorem formsThatStoreNothingKeepEveryByte : Obligations.FormsThatStoreNothingKeepEveryByte := by
  intro i s t hw h
  have hgrown := (exec_next_does h).mlen_le
  refine ⟨fun hmstore hmstore8 a => ?_, fun hi => exec_mem_of_not_memoryInstr hi h, hgrown⟩
  have hcells := exec_cells_of_not_store (not_or.2 ⟨hmstore, hmstore8⟩) h
  exact ⟨byte?_of_cells_eq hcells hgrown, byte?_of_new hw hcells⟩

end Sys2Proof.Machine
end

section
/-! SUPPORT. Immediates: the N bytes the decoder reads are the N bytes the encoder writes (30_encoding.md R92). -/

namespace Sys2Proof

theorem padTo_getElem? {n k : Nat} (h : k < n) (bs : List Byte) : (padTo n bs)[k]? = some (bs.getD k 0) := by
  induction n generalizing k bs with
  | zero => omega
  | succ n ih =>
    cases k with
    | zero => cases bs <;> rfl
    | succ k =>
      have hk : k < n := Nat.lt_of_succ_lt_succ h
      cases bs with
      | nil => exact ih hk []
      | cons b bs => exact ih hk bs

theorem immLen_le (op : Byte) : immLen op ≤ 32 := by
  unfold immLen
  split <;> omega

section
variable {n : Nat} (h : n ≤ 32) (rest : List Byte)
include h

/-- At most 32 bytes fit a Word, so no bit of the immediate is lost. -/
theorem immediate_toNat : (immediate n rest).toNat = bytesToNat (padTo n rest) := by
  have hlt := bytesToNat_lt (padTo n rest)
  rw [padTo_length] at hlt
  refine Nat.mod_eq_of_lt (hlt.trans_le ?_)
  calc 256 ^ n ≤ 256 ^ 32 := Nat.pow_le_pow_right (by decide) h
    _ = 2 ^ 256 := by norm_num

theorem immFits_immediate : immFits n (immediate n rest) = true := by
  simpa [immFits, immediate_toNat h] using bytesToNat_lt (padTo n rest)

/-- The bytes of an immediate are those it was read from, missing ones 0x00. -/
theorem natToBytes_immediate : natToBytes n (immediate n rest).toNat = padTo n rest := by
  simpa [immediate_toNat h] using natToBytes_bytesToNat (padTo n rest)

end

/-- The sum of R92 by its first byte. -/
theorem immediateSum_succ (n : Nat) (bs : List Byte) :
    Claim.immediateSum (n + 1) bs = (bs.getD 0 0).toNat * 256 ^ n + Claim.immediateSum n bs.tail := by
  have hterm : ∀ k, (bs.getD (k + 1) 0).toNat * 256 ^ (n + 1 - 1 - (k + 1)) =
      (bs.tail.getD k 0).toNat * 256 ^ (n - 1 - k) := fun k => by
    rw [show n + 1 - 1 - (k + 1) = n - 1 - k by omega]
    cases bs <;> rfl
  simp only [Claim.immediateSum, List.range_succ_eq_map, List.map_cons, List.map_map, List.sum_cons, Function.comp_def,
    Nat.succ_eq_add_one, hterm]
  rfl

theorem bytesToNat_padTo (n : Nat) (bs : List Byte) : bytesToNat (padTo n bs) = Claim.immediateSum n bs := by
  induction n generalizing bs with
  | zero => rfl
  | succ n ih =>
    rw [immediateSum_succ, ← ih]
    cases bs with
    | nil => rw [padTo, bytesToNat_cons, padTo_length]; rfl
    | cons b bs => rw [padTo, bytesToNat_cons, padTo_length]; rfl

end Sys2Proof
end

section
/-! SUPPORT. The decoder's map and the encoder's table agree: row `op` is encoded as `op` and its immediate (30_encoding.md
R90, R94). -/

namespace Sys2Proof

/-- Row `op` of the opcode map. -/
def opcodeRow (op : Byte) : Word → Instr := opcodeMap[op.toNat]'(by rw [opcodeMap_length]; exact op.isLt)

theorem decode_cons (op : Byte) (rest : List Byte) :
    decode (op :: rest) = .ok (opcodeRow op (immediate (immLen op) rest)) := rfl

/-- The opcode map as its sixteen rows. -/
def mapRows : List (List (Word → Instr)) :=
  [opcodeRow0, opcodeRow1, opcodeRow2, opcodeRow3, opcodeRow4, opcodeRow5, opcodeRow6, opcodeRow7,
    opcodeRow8, opcodeRow9, opcodeRowA, opcodeRowB, opcodeRowC, opcodeRowD, opcodeRowE, opcodeRowF]

/-- The opcode bytes of each of the sixteen rows. -/
def byteRows : List (List Byte) :=
  [0x00, 0x10, 0x20, 0x30, 0x40, 0x50, 0x60, 0x70, 0x80, 0x90, 0xA0, 0xB0, 0xC0, 0xD0, 0xE0, 0xF0].map fun first =>
    (List.range' first 16).map (BitVec.ofNat 8)

theorem opcodeMap_eq_flatten : opcodeMap = mapRows.flatten := by
  simp only [opcodeMap, mapRows, List.flatten_cons, List.flatten_nil, List.append_nil, List.append_assoc]

theorem byteRows_flatten_getElem? (op : Byte) : byteRows.flatten[op.toNat]? = some op := by
  revert op
  decide +kernel

/-- What holds row by row of the map and its bytes holds at every byte. -/
theorem opcodeRow_eq {α : Type} (f : (Word → Instr) → α) (g : Byte → α)
    (h : mapRows.map (List.map f) = byteRows.map (List.map g)) (op : Byte) : f (opcodeRow op) = g op := by
  have hmap : opcodeMap.map f = byteRows.flatten.map g := by
    rw [opcodeMap_eq_flatten, List.map_flatten, h, ← List.map_flatten]
  have hop := congrArg (·[op.toNat]?) hmap
  simpa [-List.map_flatten, byteRows_flatten_getElem?, List.getElem?_eq_getElem, opcodeMap_length, op.isLt, opcodeRow]
    using hop

theorem encode_opcodeRow (op : Byte) (imm : Word) :
    encode (opcodeRow op imm) = op :: natToBytes (immLen op) imm.toNat :=
  opcodeRow_eq (fun row => encode (row imm)) (fun op => op :: natToBytes (immLen op) imm.toNat) rfl op

theorem wellFormed_opcodeRow (op : Byte) (imm : Word) :
    WellFormed (opcodeRow op imm) = (decide (immLen op = 0) || immFits (immLen op) imm) :=
  opcodeRow_eq (fun row => WellFormed (row imm)) (fun op => decide (immLen op = 0) || immFits (immLen op) imm) rfl op

/-- Every instruction stands in the row its opcode byte selects, for some immediate; 0 where it carries none. -/
theorem exists_opcodeRow {i : Instr} (h : WellFormed i = true) :
    ∃ op imm, i = opcodeRow op imm ∧ immFits (immLen op) imm = true := by
  refine ⟨(encode i).headD 0, ?_⟩
  cases i
  case push1 imm | push2 imm | push3 imm | push4 imm | push5 imm | push6 imm | push7 imm | push8 imm | push9 imm
    | push10 imm | push11 imm | push12 imm | push13 imm | push14 imm | push15 imm | push16 imm | push17 imm | push18 imm
    | push19 imm | push20 imm | push21 imm | push22 imm | push23 imm | push24 imm | push25 imm | push26 imm
    | push27 imm | push28 imm | push29 imm | push30 imm | push31 imm | push32 imm => exact ⟨imm, rfl, h⟩
  all_goals exact ⟨0, rfl, rfl⟩

end Sys2Proof
end

section
/-! O4, O5, O6, O7. The decoder and the encoder. -/

namespace Sys2Proof

/-- Settles O4: the instruction is a row of the map, whose immediate is read back whatever follows. -/
theorem decodeOfEncodeIsTheInstruction : Obligations.DecodeOfEncodeIsTheInstruction := by
  intro i rest h
  obtain ⟨op, imm, rfl, hfits⟩ := exists_opcodeRow h
  rw [encode_opcodeRow, List.cons_append, decode_cons, immediate_natToBytes (of_decide_eq_true hfits)]

/-- The bytes of a decoded instruction: its opcode, and the bytes after it with missing ones 0x00 (R92). -/
theorem encode_decodeOp (op : Byte) (rest : List Byte) :
    encode (decodeOp op rest) = op :: padTo (immLen op) rest :=
  (encode_opcodeRow op _).trans (congrArg _ (natToBytes_immediate (immLen_le op) rest))

theorem opLen_eq (op : Byte) :
    opLen op = if 0x60 ≤ op.toNat ∧ op.toNat ≤ 0x7F then 1 + (op.toNat - 0x5F) else 1 := by
  unfold opLen immLen
  split <;> rfl

/-- Settles O5: the bytes are those of `encode_decodeOp`, and N bytes hold no number that does not fit N bytes. -/
theorem encodeOfDecodeIsTheBytes : Obligations.EncodeOfDecodeIsTheBytes := by
  refine fun op rest =>
    ⟨decodeOp op rest, rfl, ?_, (Machine.decodeOp_length op rest).trans (opLen_eq op), rfl, fun k hk => ?_⟩
  · change WellFormed (opcodeRow op _) = true
    rw [wellFormed_opcodeRow, immFits_immediate (immLen_le op), Bool.or_true]
  · rw [Machine.decodeOp_length, opLen] at hk
    rw [encode_decodeOp]
    cases k with
    | zero => rfl
    | succ k => exact padTo_getElem? (by omega) rest

theorem decode_pushInstrs {p : Nat × (Word → Instr)} (hp : p ∈ Claim.pushInstrs) (rest : List Byte) :
    decode (BitVec.ofNat 8 (0x5F + p.1) :: rest) = .ok (p.2 (immediate p.1 rest)) := by
  fin_cases hp <;> rfl

/-- Settles O6: the immediate of each of the 32 is the sum of R92 by `bytesToNat_padTo`. -/
theorem pushDecodesItsPaddedImmediate : Obligations.PushDecodesItsPaddedImmediate := by
  intro p hp rest
  rw [decode_pushInstrs hp, immediate, bytesWord, bytesToNat_padTo]

/-- Settles O7: seventeen closed facts, by evaluation. -/
theorem writtenOutEncodingsDecode : Obligations.WrittenOutEncodingsDecode := by
  unfold Obligations.WrittenOutEncodingsDecode
  decide +kernel

end Sys2Proof
end

section
/-! O46, O49. The unassigned bytes, and that every instruction has a next state. -/

namespace Sys2Proof.Machine

open Sys2Proof.Claim

/-- The 143 instructions are the rows of the bytes R96 lists. -/
theorem unassignedInstrs_eq : unassignedInstrs =
    (byteRows.flatten.filter (fun op => unassignedByte op.toNat)).map fun op => opcodeRow op 0 := by
  decide +kernel

theorem mem_unassignedInstrs {i : Instr} :
    i ∈ unassignedInstrs ↔ ∃ op : Byte, unassignedByte op.toNat = true ∧ opcodeRow op 0 = i := by
  have hall (op : Byte) : op ∈ byteRows.flatten := List.mem_of_getElem? (byteRows_flatten_getElem? op)
  rw [unassignedInstrs_eq]
  simp only [List.mem_map, List.mem_filter, hall, true_and]

theorem immLen_of_unassignedByte {op : Byte} (h : unassignedByte op.toNat = true) : immLen op = 0 := by
  revert op
  decide +kernel

/-- A row determines its byte, whatever the immediates: the byte is the first of the encoding. -/
theorem opcodeRow_byte_inj {op op' : Byte} {imm imm' : Word} (h : opcodeRow op imm = opcodeRow op' imm') : op = op' := by
  have he := congrArg encode h
  rw [encode_opcodeRow, encode_opcodeRow] at he
  exact List.head_eq_of_cons_eq he

theorem decodeOp_mem_unassignedInstrs (op : Byte) (rest : List Byte) :
    decodeOp op rest ∈ unassignedInstrs ↔ unassignedByte op.toNat = true := by
  rw [mem_unassignedInstrs]
  constructor
  · rintro ⟨op', h, heq⟩
    exact opcodeRow_byte_inj heq ▸ h
  · intro h
    refine ⟨op, h, ?_⟩
    rw [decodeOp, immLen_of_unassignedByte h]
    rfl

theorem form_of_unassigned {i : Instr} (h : i ∈ unassignedInstrs) : form i = .halts := by
  have hforms : unassignedInstrs.map form = List.replicate 143 .halts := rfl
  exact List.eq_of_mem_replicate (hforms ▸ List.mem_map_of_mem h)

theorem exec_of_unassigned {i : Instr} (h : i ∈ unassignedInstrs) (s : State) : exec i s = .next (halt s) := by
  rw [exec_eq_run_form, form_of_unassigned h]
  rfl

theorem step_of_fetch {s : State} {op : Byte} {rest : List Byte} (hs : s.status = .running)
    (h : s.code.drop s.pc = op :: rest) : step s = exec (decodeOp op rest) s := by
  rw [step_of_running hs, runningStep, State.fetchBytes, h]
  rfl

/-- Settles O46: an unassigned byte decodes to its row, which halts; it carries no immediate. -/
theorem unassignedBytesAreTheListed143 : Obligations.UnassignedBytesAreTheListed143 := by
  refine ⟨fun op rest => ?_, by decide +kernel, rfl, fun s op rest hs hfetch hop => ⟨?_, rfl⟩, fun op h => ?_⟩
  · simp [decode, ← decodeOp_mem_unassignedInstrs op rest]
  · rw [step_of_fetch hs hfetch, exec_of_unassigned ((decodeOp_mem_unassignedInstrs op rest).2 hop)]
    rfl
  · rw [opLen, immLen_of_unassignedByte h]

/-- Each of the three things an instruction can do is a next state. -/
theorem Does.isNext {s : State} {n : Nat} {o : StepOut} (h : Does s n o) : ∃ t, o = .next t := by
  cases h with
  | halts => exact ⟨_, rfl⟩
  | fails => exact ⟨_, rfl⟩
  | goes => exact ⟨_, rfl⟩

/-- Settles O49, by `Does`. -/
theorem execAlwaysAnswersANextState : Obligations.ExecAlwaysAnswersANextState := fun i s => (exec_does i s).isNext

end Sys2Proof.Machine
end

section
/-! O53. The depth after an instruction, form by form. -/

namespace Sys2Proof.Machine

/-- The next state, if the step gives one and it has not failed, has `m` entries fewer than `s` and `n` more. -/
def PopsPushes (m n : Nat) (s : State) (o : StepOut) : Prop :=
  ∀ t, o = .next t → t.status ≠ .failed → t.stack.length + m = s.stack.length + n

/-- The `pops` column of 30_encoding.md R94, by form. -/
def Form.pops : Form → Nat
  | .unary _ | .discard | .load | .jump => 1
  | .binary _ | .hash | .store _ | .jumpi => 2
  | .ternary _ => 3
  | _ => 0

/-- The `pushes` column of R94, by form. -/
def Form.pushes : Form → Nat
  | .unary _ | .binary _ | .ternary _ | .push _ _ | .pushPc | .pushMsize | .dup _ | .txRegister _ | .blkRegister _
  | .load | .hash => 1
  | _ => 0

theorem pops_eq (i : Instr) : Claim.pops i = (form i).pops := by cases i <;> rfl

theorem pushes_eq (i : Instr) : Claim.pushes i = (form i).pushes := by cases i <;> rfl

section
variable {m n : Nat} {s : State}

theorem PopsPushes.raise (k : FailureKind) (s' : State) : PopsPushes m n s (.next (raise k s')) := by
  rintro t ⟨⟩ ht
  exact absurd rfl ht

theorem PopsPushes.next {t : State} (h : t.stack.length + m = s.stack.length + n) : PopsPushes m n s (.next t) := by
  rintro t ⟨⟩ -
  exact h

theorem PopsPushes.advance (k : Nat) : PopsPushes 0 0 s (advance k s) := .next rfl

/-- A push that ends the instruction. -/
theorem PopsPushes.push (w : Word) (k : Nat) : PopsPushes 0 1 s (push w s (Machine.advance k)) := by
  rcases push_cases w s (Machine.advance k) with ⟨-, e⟩ | ⟨-, e⟩ <;> rw [e]
  · exact .next rfl
  · exact .raise _ _

/-- What follows `j` pops counts from the shorter stack. -/
theorem PopsPushes.afterPops {s' : State} {o : StepOut} {j : Nat} (h : PopsPushes m n s' o)
    (hs : s.stack.length = s'.stack.length + j) : PopsPushes (m + j) n s o := by
  intro t ht hf
  have := h t ht hf
  omega

theorem PopsPushes.pop1 {k : Word → State → StepOut} (hk : ∀ a t, PopsPushes m n t (k a t)) :
    PopsPushes (m + 1) n s (pop1 s k) := by
  rcases pop1_cases s k with ⟨a, rest, hs, e⟩ | ⟨-, e⟩ <;> rw [e]
  · exact (hk a { s with stack := rest }).afterPops (by simp [hs])
  · exact .raise _ _

theorem PopsPushes.pop2 {k : Word → Word → State → StepOut} (hk : ∀ a b t, PopsPushes m n t (k a b t)) :
    PopsPushes (m + 2) n s (pop2 s k) := by
  rcases pop2_cases s k with ⟨a, b, rest, hs, e⟩ | ⟨-, e⟩ <;> rw [e]
  · exact (hk a b { s with stack := rest }).afterPops (by simp [hs])
  · exact .raise _ _

theorem PopsPushes.pop3 {k : Word → Word → Word → State → StepOut} (hk : ∀ a b c t, PopsPushes m n t (k a b c t)) :
    PopsPushes (m + 3) n s (pop3 s k) := by
  rcases pop3_cases s k with ⟨a, b, c, rest, hs, e⟩ | ⟨-, e⟩ <;> rw [e]
  · exact (hk a b c { s with stack := rest }).afterPops (by simp [hs])
  · exact .raise _ _

theorem PopsPushes.peek (j : Nat) {k : Word → StepOut} (hk : ∀ w, PopsPushes m n s (k w)) :
    PopsPushes m n s (peek j s k) := by
  unfold Machine.peek
  split
  · exact hk _
  · exact .raise _ _

theorem PopsPushes.exchange (j : Nat) : PopsPushes 0 0 s (exchange j s (Machine.advance 1)) := by
  rcases exchange_cases j s (Machine.advance 1) with ⟨t, w, -, -, -, e⟩ | ⟨-, e⟩ <;> rw [e]
  · exact .next (by simp)
  · exact .raise _ _

theorem PopsPushes.jumpTo (w : Word) : PopsPushes 0 0 s (jumpTo w s) := by
  rcases jumpTo_cases w s with ⟨-, e⟩ | ⟨-, e⟩ <;> rw [e]
  · exact .next rfl
  · exact .raise _ _

theorem PopsPushes.pushContext (p : Bool) (r : CtxReg) : PopsPushes 0 1 s (pushContext p r s) := by
  rcases pushContext_cases p r s with ⟨-, e⟩ | ⟨-, e⟩ <;> rw [e]
  · exact .push _ 1
  · exact .raise _ _

/-- MemEnsure leaves the stack (20_memory.md R62). -/
theorem PopsPushes.memEnsure (off len : Nat) {k : State → StepOut} (hk : ∀ t, PopsPushes m n t (k t)) :
    PopsPushes m n s (memEnsure off len s k) := by
  rcases memEnsure_cases off len s k with ⟨mem, -, e⟩ | ⟨-, -, e⟩ <;> rw [e]
  · exact hk { s with mem := mem }
  · exact .raise _ _

theorem PopsPushes.memRead (off len : Nat) {k : List Byte → State → StepOut} (hk : ∀ bs t, PopsPushes m n t (k bs t)) :
    PopsPushes m n s (memRead off len s k) :=
  .memEnsure off len fun t => hk _ t

theorem PopsPushes.memWrite (off : Nat) (bs : List Byte) {k : State → StepOut} (hk : ∀ t, PopsPushes m n t (k t)) :
    PopsPushes m n s (memWrite off bs s k) :=
  .memEnsure off bs.length fun t => hk { t with mem := t.mem.store off bs }

/-- Each form pops and pushes what its columns say, unless it fails. -/
theorem Form.run_popsPushes (f : Form) : PopsPushes f.pops f.pushes s (f.run s) := by
  cases f with
  | halts => exact .next rfl
  | invalid => exact .raise _ _
  | unary f => exact .pop1 fun a t => .push (f a) 1
  | binary f => exact .pop2 fun a b t => .push (f a b) 1
  | ternary f => exact .pop3 fun a b c t => .push (f a b c) 1
  | discard => exact .pop1 fun _ t => .advance 1
  | push n w => exact .push w (1 + n)
  | pushPc => exact .push (natWord s.pc) 1
  | pushMsize => exact .push (natWord s.mem.len) 1
  | dup n => exact .peek n fun w => .push w 1
  | swap n => exact .exchange n
  | txRegister r => exact .pushContext s.tx.present (r s.tx)
  | blkRegister r => exact .pushContext s.blk.present (r s.blk)
  | load => exact .pop1 fun off t => .memRead off.toNat 32 fun bs t => .push (bytesWord bs) 1
  | hash =>
    exact .pop2 fun off len t => .memRead off.toNat len.toNat fun bs t => .push (bytesWord (Keccak.digest bs)) 1
  | store bytes => exact .pop2 fun off v t => .memWrite off.toNat (bytes v) fun t => .advance 1
  | next => exact .advance 1
  | jump => exact .pop1 fun target t => .jumpTo target
  | jumpi =>
    refine .pop2 (k := fun target c s => if conditionHolds c then Machine.jumpTo target s else Machine.advance 1 s)
      fun target c t => ?_
    split_ifs
    · exact .jumpTo target
    · exact .advance 1

end

/-- Settles O53: the columns of R94 are those of the instruction's form. -/
theorem depthChangesByPopsAndPushes : Obligations.DepthChangesByPopsAndPushes := by
  intro i s t _ h ht
  rw [exec_eq_run_form] at h
  rw [pops_eq, pushes_eq]
  exact (form i).run_popsPushes t h ht

end Sys2Proof.Machine
end

section
/-! O8, O9, O12. What a step of a running core is, its natural end, and the jump test. -/

namespace Sys2Proof.Machine

open Sys2Proof.Claim

/-- There is an instruction to decode as long as a byte is left (R97). -/
theorem exists_decode_of_lt {code : List Byte} {pc : Nat} (h : pc < code.length) :
    ∃ i, decode (code.drop pc) = .ok i := by
  rw [List.drop_eq_getElem_cons h]
  exact ⟨_, decode_cons _ _⟩

/-- Settles O8: fetch is the decoder on the bytes from pc on. -/
theorem stepRunsTheDecodedInstruction : Obligations.StepRunsTheDecodedInstruction := by
  refine ⟨fun s i hs hi => ?_, fun s => exists_decode_of_lt⟩
  rw [step_of_running hs, runningStep, State.fetchBytes, hi]

/-- The step of a running core at or past the end of the program (R124). -/
theorem step_of_end {s : State} (hs : s.status = .running) (h : s.code.length ≤ s.pc) :
    step s = .next (halted s) :=
  (step_of_running hs).trans (runningStep_of_end h)

/-- A running core that meets the invariant has FAULT None (R27). -/
theorem fault_of_running {s : State} (h : s.Inv) (hs : s.status = .running) : s.fault = none :=
  h.fault_iff.2 (by simp [hs])

/-- Settles O9: by `step_of_end`; a start of the empty program is at its end. -/
theorem naturalEndHaltsWithSuccess : Obligations.NaturalEndHaltsWithSuccess := by
  refine ⟨fun s hs hend => ⟨step_of_end hs hend, rfl, fun h => fault_of_running (s := s) h hs⟩, fun s t ht => ?_,
    fun l hl => ?_⟩
  · exact ((validTarget_iff s t).1 ht).1
  · have hend : (start l).code.length ≤ (start l).pc := by simp [start, hl]
    exact step_of_end rfl hend

/-- The set a jump looks up is the scanned one in a state that meets the invariant (R31, R121). -/
theorem validTarget_iff_scanned {s : State} (h : s.Inv) (t : Word) :
    s.validTarget t = true ↔ t.toNat < s.code.length ∧ t.toNat ∈ validDestinations s.code := by
  rw [validTarget_iff, h.valid_eq]

/-- Membership in the scanned set, below CODE_LEN, is R121's valid destination. -/
theorem validDestination_iff (code : List Byte) (t : Word) :
    ValidDestination code t ↔ t.toNat < code.length ∧ t.toNat ∈ validDestinations code := by
  rw [mem_validDestinations, and_comm (a := t.toNat ∈ opcodeOffsets code)]
  rfl

/-- Settles O12: the invariant gives the scanned set, `mem_validDestinations` what is in it. -/
theorem validMeansInTheScannedSet : Obligations.ValidMeansInTheScannedSet := fun s t h =>
  ⟨validTarget_iff_scanned h t, (validTarget_iff_scanned h t).trans (validDestination_iff s.code t).symm⟩

end Sys2Proof.Machine
end

section
/-! O11. The scan of the model and the loop of 40_program_and_loop.md R120: both go from opcode to opcode, and the fuel
of the loop lasts because every turn moves its cursor. -/

namespace Sys2Proof.Machine

open Sys2Proof.Claim

section
variable {code : List Byte} {i : Nat}

/-- The model's scan from a cursor inside the program: one instruction, then the scan after it. -/
theorem opcodeOffsetsFrom_drop (hi : i < code.length) :
    opcodeOffsetsFrom (code.drop i) i 0 =
      [i] ++ opcodeOffsetsFrom (code.drop (i + opLen code[i])) (i + opLen code[i]) 0 := by
  rw [List.drop_eq_getElem_cons hi, opcodeOffsetsFrom_cons, List.drop_drop, opLen, ← Nat.add_assoc]
  rfl

theorem validFrom_drop (hi : i < code.length) :
    validFrom (code.drop i) i 0 =
      (if code[i] = jumpdestByte then [i] else []) ++
        validFrom (code.drop (i + opLen code[i])) (i + opLen code[i]) 0 := by
  rw [List.drop_eq_getElem_cons hi, validFrom_cons, List.drop_drop, opLen, ← Nat.add_assoc]

/-- The cursor of the rule moves over the whole instruction: by N + 1 from a PUSHN, by 1 from any other (R91, R120). -/
theorem next_cursor (b : Byte) (i : Nat) :
    (if 0x60 ≤ b.toNat ∧ b.toNat ≤ 0x7F then i + (b.toNat - 0x5F) + 1 else i + 1) = i + opLen b := by
  unfold opLen immLen
  split <;> omega

theorem toNat_eq_marker_iff (b : Byte) : b.toNat = 0x5B ↔ b = jumpdestByte :=
  BitVec.toNat_inj (y := jumpdestByte)

/-- One turn of the loop, which visits its cursor. -/
theorem cursorLoop_turn (hi : i < code.length) (fuel : Nat) (visited : List Nat) :
    cursorLoop code (fuel + 1) i visited = cursorLoop code fuel (i + opLen code[i]) (visited ++ [i]) := by
  simp [cursorLoop, hi, next_cursor]

/-- One turn of the loop, which records its cursor at the marker; the marker is no PUSH opcode. -/
theorem scanLoop_turn (hi : i < code.length) (fuel : Nat) (valid : List Nat) :
    scanLoop code (fuel + 1) i valid =
      scanLoop code fuel (i + opLen code[i]) (valid ++ if code[i] = jumpdestByte then [i] else []) := by
  simp only [← next_cursor, ← toNat_eq_marker_iff]
  by_cases hpush : 0x60 ≤ code[i].toNat ∧ code[i].toNat ≤ 0x7F
  · have hmarker : code[i].toNat ≠ 0x5B := by omega
    simp [scanLoop, hi, hpush, hmarker]
  · simp [scanLoop, hi, hpush, apply_ite (valid ++ ·)]

/-- The scan ends when the cursor reaches or passes CODE_LEN (R120). -/
theorem cursorLoop_of_end (hi : code.length ≤ i) (fuel : Nat) (visited : List Nat) :
    cursorLoop code fuel i visited = visited := by
  cases fuel with
  | zero => rfl
  | succ fuel => exact if_neg hi.not_gt

theorem scanLoop_of_end (hi : code.length ≤ i) (fuel : Nat) (valid : List Nat) :
    scanLoop code fuel i valid = valid := by
  cases fuel with
  | zero => rfl
  | succ fuel => exact if_neg hi.not_gt

/-- At or past CODE_LEN neither the loops nor the model's scan find anything more. -/
theorem loops_eq_scan_of_end (hi : code.length ≤ i) (fuel : Nat) (valid visited : List Nat) :
    scanLoop code fuel i valid = valid ++ validFrom (code.drop i) i 0 ∧
    cursorLoop code fuel i visited = visited ++ opcodeOffsetsFrom (code.drop i) i 0 := by
  rw [scanLoop_of_end hi, cursorLoop_of_end hi, List.drop_eq_nil_of_le hi]
  simp [validFrom, opcodeOffsetsFrom]

end

/-- Both loops from any cursor, with fuel for the bytes that are left, append what the model's scan finds from there. -/
theorem loops_eq_scan (code : List Byte) (fuel i : Nat) (valid visited : List Nat) (hfuel : code.length ≤ i + fuel) :
    scanLoop code fuel i valid = valid ++ validFrom (code.drop i) i 0 ∧
    cursorLoop code fuel i visited = visited ++ opcodeOffsetsFrom (code.drop i) i 0 := by
  induction fuel generalizing i valid visited with
  | zero => exact loops_eq_scan_of_end hfuel 0 valid visited
  | succ fuel ih =>
    rcases Nat.lt_or_ge i code.length with hi | hi
    · have hmoves : 1 ≤ opLen code[i] := Nat.le_add_right _ _
      obtain ⟨hvalid, hvisited⟩ := ih (i + opLen code[i]) (valid ++ if code[i] = jumpdestByte then [i] else [])
        (visited ++ [i]) (by omega)
      rw [scanLoop_turn hi, cursorLoop_turn hi, hvalid, hvisited, validFrom_drop hi, opcodeOffsetsFrom_drop hi,
        List.append_assoc, List.append_assoc]
      exact ⟨rfl, rfl⟩
    · exact loops_eq_scan_of_end hi (fuel + 1) valid visited

/-- Settles O11: the loops from cursor 0. -/
theorem scanIsTheLoopOfTheRule : Obligations.ScanIsTheLoopOfTheRule := fun code => by
  obtain ⟨hvalid, hvisited⟩ := loops_eq_scan code code.length 0 [] [] (Nat.le_add_left _ _)
  exact ⟨hvalid.symm, hvisited.symm⟩

end Sys2Proof.Machine
end

section
/-! SUPPORT. What the stack instructions do on a stack that has the entries they need, and on one that has not
(41_stack_ops.md R175, R192). -/

namespace Sys2Proof.Machine

section
variable {n : Nat} {s : State}

theorem peek_of_entry {w : Word} (h : s.entry n = some w) (f : Word → StepOut) : peek n s f = f w := by
  simp [peek, h]

theorem peek_of_no_entry (h : s.entry n = none) (f : Word → StepOut) :
    peek n s f = .next (raise .stackUnderflow s) := by
  simp [peek, h]

/-- The exchange, with the stack parted at `S[1]` and `S[n+1]` (R192). -/
theorem exchange_of_parts {a b : Word} {mid rest : List Word} (hs : s.stack = a :: (mid ++ b :: rest))
    (hn : mid.length + 1 = n) (k : State → StepOut) :
    exchange n s k = k { s with stack := b :: (mid ++ a :: rest) } := by
  subst hn
  simp [exchange, hs]

theorem exchange_short (h : s.stack.length < n + 1) (k : State → StepOut) :
    exchange n s k = .next (raise .stackUnderflow s) := by
  rcases exchange_cases n s k with ⟨_, _, hlt, -⟩ | ⟨-, e⟩
  · omega
  · exact e

theorem dupTop_of_entry {w : Word} (hw : s.entry n = some w) (hlt : s.stack.length < 1024) :
    dupTop n s = .next (Claim.goesOn (w :: s.stack) 1 s) :=
  (peek_of_entry hw _).trans (push_of_lt hlt)

theorem dupTop_short (h : s.stack.length < n) : dupTop n s = .next (raise .stackUnderflow s) :=
  peek_of_no_entry ((entry_eq_none_iff s n).2 (.inr h)) _

/-- An entry that exists cannot be copied onto a full stack. -/
theorem dupTop_full (hpos : 1 ≤ n) (hle : n ≤ s.stack.length) (hfull : 1024 ≤ s.stack.length) :
    dupTop n s = .next (raise .stackOverflow s) := by
  obtain ⟨w, hw⟩ := Option.ne_none_iff_exists'.1 (mt (entry_eq_none_iff s n).1 (by omega))
  exact (peek_of_entry hw _).trans (push_of_ge hfull)

end

end Sys2Proof.Machine
end

section
/-! SUPPORT. The tables of the DUP, SWAP and PUSH instructions: their opcodes, their meanings and the numbers in them
(41_stack_ops.md R142 to R208). -/

namespace Sys2Proof.Machine

open Sys2Proof.Claim

theorem hasOpcode_dupInstrs {p : Nat × Instr} (hp : p ∈ dupInstrs) : HasOpcode (BitVec.ofNat 8 (0x7F + p.1)) p.2 := by
  fin_cases hp <;> exact ⟨rfl, fun _ => rfl⟩

theorem exec_dupInstrs {p : Nat × Instr} (hp : p ∈ dupInstrs) (s : State) : exec p.2 s = dupTop p.1 s := by
  fin_cases hp <;> rfl

theorem dupInstrs_range : ∀ p ∈ dupInstrs, 1 ≤ p.1 ∧ p.1 ≤ 16 := by decide

theorem hasOpcode_swapInstrs {p : Nat × Instr} (hp : p ∈ swapInstrs) : HasOpcode (BitVec.ofNat 8 (0x8F + p.1)) p.2 := by
  fin_cases hp <;> exact ⟨rfl, fun _ => rfl⟩

theorem exec_swapInstrs {p : Nat × Instr} (hp : p ∈ swapInstrs) (s : State) : exec p.2 s = swapTop p.1 s := by
  fin_cases hp <;> rfl

/-- There is a PUSH instruction for every N in 1..32. -/
theorem exists_mem_pushInstrs {N : Nat} (h1 : 1 ≤ N) (h32 : N ≤ 32) : ∃ mk, (N, mk) ∈ pushInstrs := by
  have hfst : pushInstrs.map Prod.fst = List.range' 1 32 := rfl
  have hN : N ∈ pushInstrs.map Prod.fst := by
    rw [hfst, List.mem_range'_1]
    omega
  simpa using hN

/-- The opcode byte 0x5F + N is that of an instruction of 1 + N bytes (30_encoding.md R91, R93). -/
theorem opLen_pushOpcode {N : Nat} (h1 : 1 ≤ N) (h32 : N ≤ 32) : opLen (BitVec.ofNat 8 (0x5F + N)) = 1 + N := by
  rw [opLen_eq, BitVec.toNat_ofNat, Nat.mod_eq_of_lt (by omega), if_pos (by omega)]
  omega

/-- N bytes make a number below 256^N. -/
theorem immediateSum_lt (N : Nat) (rest : List Byte) : immediateSum N rest < 256 ^ N := by
  have h := bytesToNat_lt (padTo N rest)
  rwa [padTo_length, bytesToNat_padTo] at h

end Sys2Proof.Machine
end

section
/-! O13, O15, O16, O17. The stack instructions. -/

namespace Sys2Proof.Machine

open Sys2Proof.Claim

/-- Settles O13: `pop1` on a stack with a top, and on the empty one. -/
theorem popDiscardsTheTop : Obligations.PopDiscardsTheTop := by
  refine ⟨⟨rfl, fun _ => rfl⟩, fun s a rest hs => pop1_cons hs _, fun s h => ?_⟩
  have hs : s.stack = [] := List.eq_nil_of_length_eq_zero h
  rw [← hs]
  exact pop1_short (Nat.lt_one_iff.2 h) _

/-- Settles O16: each of the 16 is `dupTop`; a full stack has the entry to copy, since n is at most 16. -/
theorem dupPushesACopyOfTheNthEntry : Obligations.DupPushesACopyOfTheNthEntry := by
  intro p hp
  obtain ⟨hpos, h16⟩ := dupInstrs_range p hp
  simp only [exec_dupInstrs hp]
  refine ⟨hasOpcode_dupInstrs hp, fun s w => dupTop_of_entry, fun s => dupTop_short, fun s hfull => ?_⟩
  rw [depth_eq] at hfull
  exact dupTop_full hpos (by omega) hfull.ge

/-- Settles O17: each of the 16 is an exchange followed by one byte's advance. -/
theorem swapExchangesTopAndNPlusFirst : Obligations.SwapExchangesTopAndNPlusFirst := by
  intro p hp
  simp only [exec_swapInstrs hp]
  exact ⟨hasOpcode_swapInstrs hp, fun s a mid b rest hs hn => exchange_of_parts hs hn _, fun s h => exchange_short h _⟩

section
variable {s : State} {N : Nat} {rest : List Byte}

/-- With a PUSH opcode at pc, the step is that PUSH with the immediate of the bytes after it (R142). -/
theorem step_of_pushOpcode (h1 : 1 ≤ N) (h32 : N ≤ 32) (hs : s.status = .running)
    (hfetch : s.code.drop s.pc = BitVec.ofNat 8 (0x5F + N) :: rest) :
    step s = pushImm N (natWord (immediateSum N rest)) s := by
  obtain ⟨mk, hmk⟩ := exists_mem_pushInstrs h1 h32
  have hdecode := pushDecodesItsPaddedImmediate (N, mk) hmk rest
  rw [← hfetch] at hdecode
  exact (stepRunsTheDecodedInstruction.1 s _ hs hdecode).trans (exec_pushInstrs hmk _ s)

/-- When fewer than N bytes follow the opcode, pc + 1 + N is past the end of the program (R142). -/
theorem length_le_of_cut_off {op : Byte} (hfetch : s.code.drop s.pc = op :: rest) (hcut : rest.length < N) :
    s.code.length ≤ s.pc + (1 + N) := by
  have hlen := congrArg List.length hfetch
  simp only [List.length_drop, List.length_cons] at hlen
  omega

/-- In a state that meets the invariant the scan visits no byte inside the instruction at pc (30_encoding.md R98). -/
theorem not_mem_opcodeOffsets_inside {b : Byte} {j : Nat} (h : s.Inv) (hb : s.code[s.pc]? = some b) (hlo : s.pc < j)
    (hhi : j < s.pc + opLen b) : j ∉ opcodeOffsets s.code := by
  have hpc : s.pc < s.code.length := (List.getElem?_eq_some_iff.1 hb).1
  exact not_mem_opcodeOffsetsFrom_between (h.pc_on_opcode.resolve_right (by omega)) (by simpa using hb) j hlo hhi

/-- An offset the scan did not visit is no jump destination (40_program_and_loop.md R121). -/
theorem validTarget_eq_false {t : Word} (h : s.Inv) (ht : t.toNat ∉ opcodeOffsets s.code) : s.validTarget t = false :=
  Bool.eq_false_iff.2 (mt (target_on_opcode h) ht)

end

/-- Settles O15: the step is the PUSH decoded at pc, the stack bound decides it, and the immediate lies inside an
instruction whose opcode the scan visited. -/
theorem pushStepReadsItsBytesFromCode : Obligations.PushStepReadsItsBytesFromCode := by
  intro s N rest h1 h32 hs hfetch
  have hstep := step_of_pushOpcode h1 h32 hs hfetch
  refine ⟨fun hlt => hstep.trans (push_of_lt hlt), immediateSum_lt N rest, fun hcut _ => ?_,
    fun hfull => hstep.trans (push_of_ge hfull.ge), fun hinv j hlo hhi => ?_⟩
  · exact step_of_end hs (length_le_of_cut_off hfetch hcut)
  · have hb : s.code[s.pc]? = some (BitVec.ofNat 8 (0x5F + N)) := by
      rw [← List.head?_drop, hfetch, List.head?_cons]
    have hj : j ∉ opcodeOffsets s.code :=
      not_mem_opcodeOffsets_inside hinv hb hlo (by rw [opLen_pushOpcode h1 h32]; omega)
    exact ⟨hj, fun t ht => validTarget_eq_false hinv (ht ▸ hj)⟩

end Sys2Proof.Machine
end

section
/-! SUPPORT. The templates of two and three operands: the rule of an instruction follows from its form and its result
function (42_arithmetic.md R220). -/

namespace Sys2Proof.Machine

open Sys2Proof.Claim

theorem exec_of_binary_form {i : Instr} {f : Word → Word → Word} (hi : form i = .binary f) (s : State) :
    exec i s = binary f s := by
  rw [exec_eq_run_form, hi]
  rfl

theorem exec_of_ternary_form {i : Instr} {f : Word → Word → Word → Word} (hi : form i = .ternary f) (s : State) :
    exec i s = ternary f s := by
  rw [exec_eq_run_form, hi]
  rfl

section
variable {s : State} {a b n : Word} {rest : List Word}

theorem binary_of_operands (hs : s.stack = a :: b :: rest) (hd : s.depth ≤ 1024) (f : Word → Word → Word) :
    binary f s = .next (goesOn (f a b :: rest) 1 s) := by
  simp only [depth_eq, hs, List.length_cons] at hd
  have hroom : rest.length < 1024 := by omega
  rw [binary, pop2_cons hs, push_of_lt hroom]
  rfl

theorem ternary_of_operands (hs : s.stack = a :: b :: n :: rest) (hd : s.depth ≤ 1024)
    (f : Word → Word → Word → Word) : ternary f s = .next (goesOn (f a b n :: rest) 1 s) := by
  simp only [depth_eq, hs, List.length_cons] at hd
  have hroom : rest.length < 1024 := by omega
  rw [ternary, pop3_cons hs, push_of_lt hroom]
  rfl

/-- The entry an instruction of the two-operand form leaves on top is its result. -/
theorem result_of_binary_form {i : Instr} {f : Word → Word → Word} {t : State} {r : Word} (hi : form i = .binary f)
    (hs : s.stack = a :: b :: rest) (hd : s.depth ≤ 1024) (h : exec i s = .next t) (hr : t.entry 1 = some r) :
    r = f a b := by
  rw [exec_of_binary_form hi, binary_of_operands hs hd] at h
  cases h
  exact (Option.some.inj hr).symm

end

/-- What remains of a two-operand rule is what the result function computes. -/
theorem binaryRule_of_form {op : Byte} {i : Instr} {f : Word → Word → Word} {isResult : Word → Word → Word → Prop}
    (hop : HasOpcode op i) (hi : form i = .binary f) (hf : ∀ a b, isResult a b (f a b)) : BinaryRule op i isResult := by
  simp only [BinaryRule, exec_of_binary_form hi]
  exact ⟨hop, fun s a b rest hd hs => ⟨f a b, hf a b, binary_of_operands hs hd f⟩, fun s h => pop2_short h _⟩

/-- The same for three operands. -/
theorem ternaryRule_of_form {op : Byte} {i : Instr} {f : Word → Word → Word → Word}
    {isResult : Word → Word → Word → Word → Prop} (hop : HasOpcode op i) (hi : form i = .ternary f)
    (hf : ∀ a b n, isResult a b n (f a b n)) : TernaryRule op i isResult := by
  simp only [TernaryRule, exec_of_ternary_form hi]
  exact ⟨hop, fun s a b n rest hd hs => ⟨f a b n, hf a b n, ternary_of_operands hs hd f⟩, fun s h => pop3_short h _⟩

end Sys2Proof.Machine
end

section
/-! SUPPORT. The arithmetic engine, read as numbers: what each result function computes (42_arithmetic.md R221 to
R230). -/

namespace Sys2Proof.Machine.Engine

theorem natWord_toNat_of_lt {v : Nat} (h : v < 2 ^ 256) : (natWord v).toNat = v := by
  rw [BitVec.toNat_ofNat, Nat.mod_eq_of_lt h]

theorem add_toNat (a b : Word) : (add a b).toNat = (a.toNat + b.toNat) % 2 ^ 256 := BitVec.toNat_ofNat _ _

theorem mul_toNat (a b : Word) : (mul a b).toNat = (a.toNat * b.toNat) % 2 ^ 256 := BitVec.toNat_ofNat _ _

/-- The difference, with a borrow of 2^256 where the subtrahend is the greater. -/
theorem sub_toNat (a b : Word) :
    (sub a b).toNat = if b.toNat ≤ a.toNat then a.toNat - b.toNat else 2 ^ 256 + a.toNat - b.toNat := by
  have ha := a.isLt
  have hb := b.isLt
  rw [sub, BitVec.toNat_ofInt]
  split <;> omega

theorem div_toNat (a b : Word) : (div a b).toNat = if b.toNat = 0 then 0 else a.toNat / b.toNat := by
  rw [div]
  split
  · rfl
  · exact natWord_toNat_of_lt ((Nat.div_le_self _ _).trans_lt a.isLt)

/-- A remainder of anything by a Word is a Word. -/
theorem natWord_mod_toNat {n : Word} (hn : n.toNat ≠ 0) (v : Nat) : (natWord (v % n.toNat)).toNat = v % n.toNat :=
  natWord_toNat_of_lt ((Nat.mod_lt v (Nat.pos_of_ne_zero hn)).trans n.isLt)

theorem mod_toNat_of_zero {b : Word} (hb : b.toNat = 0) (a : Word) : (mod a b).toNat = 0 := by
  rw [mod, if_pos hb]
  rfl

theorem mod_toNat {b : Word} (hb : b.toNat ≠ 0) (a : Word) : (mod a b).toNat = a.toNat % b.toNat := by
  rw [mod, if_neg hb, natWord_mod_toNat hb]

theorem addmod_toNat (a b n : Word) :
    (addmod a b n).toNat = if n.toNat = 0 then 0 else (a.toNat + b.toNat) % n.toNat := by
  rw [addmod]
  split
  · rfl
  · exact natWord_mod_toNat ‹_› _

theorem mulmod_toNat (a b n : Word) :
    (mulmod a b n).toNat = if n.toNat = 0 then 0 else (a.toNat * b.toNat) % n.toNat := by
  rw [mulmod]
  split
  · rfl
  · exact natWord_mod_toNat ‹_› _

theorem sdiv_of_zero {b : Word} (hb : b.toInt = 0) (a : Word) : sdiv a b = 0 := if_pos hb

theorem sdiv_of_overflow {b : Word} (hb : b.toInt = -1) : sdiv minS b = minS := by
  rw [sdiv, if_neg (by omega), if_pos ⟨rfl, hb⟩]

/-- Apart from MINS / -1 the truncated quotient is in range, so the Word reads as it. -/
theorem sdiv_toInt {a b : Word} (hb : b.toInt ≠ 0) (h : ¬ (a = minS ∧ b.toInt = -1)) :
    (sdiv a b).toInt = a.toInt.tdiv b.toInt := by
  have hrange : a ≠ BitVec.intMin 256 ∨ b ≠ -1#256 := by
    by_contra! hab
    obtain ⟨rfl, rfl⟩ := hab
    exact h (by decide)
  rw [sdiv, if_neg hb, if_neg h, ← BitVec.toInt_sdiv_of_ne_or_ne a b hrange]
  exact congrArg BitVec.toInt BitVec.ofInt_toInt

theorem smod_of_zero {b : Word} (hb : b.toInt = 0) (a : Word) : smod a b = 0 := if_pos hb

theorem smod_toInt {a b : Word} (hb : b.toInt ≠ 0) : (smod a b).toInt = a.toInt.tmod b.toInt := by
  rw [smod, if_neg hb, ← BitVec.toInt_srem]
  exact congrArg BitVec.toInt BitVec.ofInt_toInt

/-- The truncated quotient in sign and magnitude (00_scope.md R13). -/
theorem tdiv_eq_sign_mul_natAbs (x y : Int) : x.tdiv y = x.sign * y.sign * ((x.natAbs / y.natAbs : Nat) : Int) := by
  have habs : (x.tdiv y).natAbs = x.natAbs / y.natAbs := Int.natAbs_tdiv x y
  rw [← Int.sign_mul_natAbs (x.tdiv y), habs, Int.sign_tdiv]
  split
  case isTrue hlt => simp [Nat.div_eq_of_lt hlt]
  case isFalse => rfl

/-- The truncated remainder in sign and magnitude; it is 0 where the divisor divides the dividend. -/
theorem tmod_eq_sign_mul_natAbs (x y : Int) : x.tmod y = x.sign * ((x.natAbs % y.natAbs : Nat) : Int) := by
  rw [← Int.sign_mul_natAbs (x.tmod y), Int.natAbs_tmod, Int.sign_tmod]
  split
  case isTrue hdvd => simp [Nat.mod_eq_zero_of_dvd (Int.natAbs_dvd_natAbs.2 hdvd)]
  case isFalse => rfl

/-- Squaring and multiplying computes `acc * base ^ e`: each turn halves the exponent and keeps the congruence. -/
theorem powMod_modEq {fuel e : Nat} (he : e < 2 ^ fuel) (base acc : Nat) :
    powMod fuel base e acc ≡ acc * base ^ e [MOD 2 ^ 256] := by
  induction fuel generalizing base e acc with
  | zero =>
    obtain rfl : e = 0 := by simpa using he
    simp [powMod, Nat.ModEq.refl]
  | succ fuel ih =>
    have hsquare : (base * base % 2 ^ 256) ^ (e / 2) ≡ base ^ (2 * (e / 2)) [MOD 2 ^ 256] := by
      rw [pow_mul, sq]
      exact (Nat.mod_modEq _ _).pow _
    refine (ih (by omega) _ _).trans ?_
    split
    case isTrue hodd =>
      refine ((Nat.mod_modEq _ _).mul hsquare).trans ?_
      rw [mul_assoc, ← pow_succ', show 2 * (e / 2) + 1 = e by omega]
    case isFalse heven =>
      rw [show 2 * (e / 2) = e by omega] at hsquare
      exact hsquare.mul_left acc

theorem exp_toNat (a b : Word) : (exp a b).toNat = a.toNat ^ b.toNat % 2 ^ 256 := by
  have h : powMod 256 a.toNat b.toNat 1 ≡ 1 * a.toNat ^ b.toNat [MOD 2 ^ 256] := powMod_modEq b.isLt a.toNat 1
  rw [exp, BitVec.toNat_ofNat, h, one_mul]

end Sys2Proof.Machine.Engine
end

section
/-! SUPPORT. SIGNEXTEND bit by bit (42_arithmetic.md R231). -/

namespace Sys2Proof.Machine.Engine

/-- The mask of the bits from `m` up. -/
theorem getLsbD_highMask {m j : Nat} (hm : m ≤ 256) (hj : j < 256) :
    (natWord (2 ^ 256 - 2 ^ m)).getLsbD j = decide (m ≤ j) := by
  have hpos : 0 < 2 ^ m := by positivity
  have hle : 2 ^ m ≤ 2 ^ 256 := Nat.pow_le_pow_right (by omega) hm
  have hmask := Nat.testBit_two_pow_sub_succ (x := 2 ^ m - 1) (n := 256) (by omega) j
  rw [Nat.sub_add_cancel hpos, Nat.testBit_two_pow_sub_one] at hmask
  rw [BitVec.getLsbD_ofNat, hmask, ← decide_not]
  simp [hj]

/-- The mask of the bits below `m`. -/
theorem getLsbD_lowMask {m j : Nat} (hj : j < 256) : (natWord (2 ^ m - 1)).getLsbD j = decide (j < m) := by
  rw [BitVec.getLsbD_ofNat, Nat.testBit_two_pow_sub_one, decide_eq_true hj, Bool.true_and]

theorem signextend_of_ge {k : Word} (hk : 31 ≤ k.toNat) (x : Word) : signextend k x = x := if_pos hk

/-- Up to the inspected bit `t` the value is kept; above it every bit is bit `t`. -/
theorem getLsbD_signextend {k x : Word} {j : Nat} (hk : k.toNat < 31) (hj : j < 256) :
    (signextend k x).getLsbD j =
      if j ≤ 8 * (k.toNat + 1) - 1 then x.getLsbD j else x.getLsbD (8 * (k.toNat + 1) - 1) := by
  rw [signextend, if_neg (by omega)]
  generalize ht : 8 * (k.toNat + 1) - 1 = t
  dsimp only
  cases hbit : x.getLsbD t
  case true =>
    rw [if_pos rfl, BitVec.getLsbD_or, getLsbD_highMask (by omega) hj]
    by_cases hjt : j ≤ t
    · simp [hjt]
    · simp [hjt, Nat.lt_of_not_le hjt]
  case false =>
    rw [if_neg (by simp), BitVec.getLsbD_and, getLsbD_lowMask hj]
    by_cases hjt : j ≤ t
    · simp [hjt]
    · simp [hjt]

end Sys2Proof.Machine.Engine
end

section
/-! O18, O19, O20, O21, O22, O23, O24, O25. The arithmetic instructions. -/

namespace Sys2Proof.Machine

open Sys2Proof.Claim

/-- Settles O18: the three results by their unsigned readings. -/
theorem addMulSubWrap : Obligations.AddMulSubWrap :=
  ⟨binaryRule_of_form ⟨rfl, fun _ => rfl⟩ rfl Engine.add_toNat,
    binaryRule_of_form ⟨rfl, fun _ => rfl⟩ rfl Engine.mul_toNat,
    binaryRule_of_form ⟨rfl, fun _ => rfl⟩ rfl Engine.sub_toNat⟩

/-- Settles O19: quotient and remainder of the unsigned readings. -/
theorem unsignedDivisionYieldsZeroByZero : Obligations.UnsignedDivisionYieldsZeroByZero := by
  refine ⟨binaryRule_of_form ⟨rfl, fun _ => rfl⟩ rfl Engine.div_toNat,
    binaryRule_of_form ⟨rfl, fun _ => rfl⟩ rfl fun a b => ⟨fun hb => Engine.mod_toNat_of_zero hb a, fun hb => ?_⟩⟩
  rw [Engine.mod_toNat hb]
  exact ⟨Nat.mod_lt _ (Nat.pos_of_ne_zero hb), (Nat.div_add_mod _ _).symm⟩

/-- Settles O20: the three cases of the signed quotient. -/
theorem signedDivisionTruncatesTowardZero : Obligations.SignedDivisionTruncatesTowardZero := by
  refine binaryRule_of_form ⟨rfl, fun _ => rfl⟩ rfl fun a b => ⟨fun hb => Engine.sdiv_of_zero hb a, ?_, ?_⟩
  · rintro rfl hb
    exact Engine.sdiv_of_overflow hb
  · intro hb h
    rw [Engine.sdiv_toInt hb h, Engine.tdiv_eq_sign_mul_natAbs]

/-- Settles O21: the truncated remainder in sign and magnitude. -/
theorem signedRemainderHasTheSignOfTheDividend : Obligations.SignedRemainderHasTheSignOfTheDividend := by
  refine binaryRule_of_form ⟨rfl, fun _ => rfl⟩ rfl fun a b => ⟨fun hb => Engine.smod_of_zero hb a, fun hb => ?_⟩
  rw [Engine.smod_toInt hb, Int.natAbs_tmod]
  exact ⟨Engine.tmod_eq_sign_mul_natAbs _ _, Nat.mod_lt _ (Int.natAbs_pos.2 hb)⟩

/-- Settles O22: sum and product are exact before they are reduced. -/
theorem modularSumAndProductAreExact : Obligations.ModularSumAndProductAreExact :=
  ⟨ternaryRule_of_form ⟨rfl, fun _ => rfl⟩ rfl Engine.addmod_toNat,
    ternaryRule_of_form ⟨rfl, fun _ => rfl⟩ rfl Engine.mulmod_toNat⟩

/-- Settles O23, by the invariant of the squaring loop, `Engine.powMod_modEq`. -/
theorem expIsThePowerModuloTwoTo256 : Obligations.ExpIsThePowerModuloTwoTo256 :=
  binaryRule_of_form ⟨rfl, fun _ => rfl⟩ rfl Engine.exp_toNat

/-- Settles O24, from the bits of the result, `Engine.getLsbD_signextend`. -/
theorem signextendCopiesTheInspectedBit : Obligations.SignextendCopiesTheInspectedBit := by
  refine binaryRule_of_form ⟨rfl, fun _ => rfl⟩ rfl fun k x =>
    ⟨fun hk => Engine.signextend_of_ge hk x, fun hk => ⟨?_, ?_⟩⟩
  · intro j hj
    rw [Engine.getLsbD_signextend hk (by omega), if_pos hj]
  · intro j hj h256
    rw [Engine.getLsbD_signextend hk h256, if_neg (by omega)]

/-- Settles O25: the results are quotient and remainder, floored of the unsigned readings and truncated of the
signed. -/
theorem divisionIdentitiesHold : Obligations.DivisionIdentitiesHold := by
  intro s tq tr a b q r rest hd hs hq hr
  constructor
  · intro hdiv hmod hb
    obtain rfl := result_of_binary_form rfl hs hd hdiv hq
    obtain rfl := result_of_binary_form rfl hs hd hmod hr
    rw [Engine.div_toNat, if_neg hb, Engine.mod_toNat hb, Nat.div_add_mod]
  · intro hsdiv hsmod hb h
    obtain rfl := result_of_binary_form rfl hs hd hsdiv hq
    obtain rfl := result_of_binary_form rfl hs hd hsmod hr
    rw [Engine.sdiv_toInt hb h, Engine.smod_toInt hb, Int.mul_tdiv_add_tmod]

end Sys2Proof.Machine
end

section
/-! SUPPORT. The template of one operand (43_compare_bitwise_shift.md R240). -/

namespace Sys2Proof.Machine

open Sys2Proof.Claim

theorem exec_of_unary_form {i : Instr} {f : Word → Word} (hi : form i = .unary f) (s : State) :
    exec i s = unary f s := by
  rw [exec_eq_run_form, hi]
  rfl

theorem unary_of_operand {s : State} {a : Word} {rest : List Word} (hs : s.stack = a :: rest) (hd : s.depth ≤ 1024)
    (f : Word → Word) : unary f s = .next (goesOn (f a :: rest) 1 s) := by
  simp only [depth_eq, hs, List.length_cons] at hd
  have hroom : rest.length < 1024 := by omega
  rw [unary, pop1_cons hs, push_of_lt hroom]
  rfl

/-- What remains of a one-operand rule is what the result function computes. -/
theorem unaryRule_of_form {op : Byte} {i : Instr} {f : Word → Word} {isResult : Word → Word → Prop}
    (hop : HasOpcode op i) (hi : form i = .unary f) (hf : ∀ a, isResult a (f a)) : UnaryRule op i isResult := by
  simp only [UnaryRule, exec_of_unary_form hi]
  exact ⟨hop, fun s a rest hd hs => ⟨f a, hf a, unary_of_operand hs hd f⟩, fun s h => pop1_short h _⟩

end Sys2Proof.Machine
end

section
/-! SUPPORT. The comparison, byte and shift results of the engine, read as numbers and bit by bit
(43_compare_bitwise_shift.md R241 to R254). A shift by less than 256 is the bit vector shift of the library. -/

namespace Sys2Proof.Machine

theorem boolWord_decide (p : Prop) [Decidable p] : boolWord (decide p) = if p then 1 else 0 := by
  by_cases hp : p <;> simp [boolWord, hp]

namespace Engine

theorem eq_eq_ite (a b : Word) : eq a b = if a.toNat = b.toNat then 1 else 0 := by
  simp only [eq, boolWord_decide, BitVec.toNat_inj]

theorem iszero_eq_ite (a : Word) : iszero a = if a.toNat = 0 then 1 else 0 := eq_eq_ite a 0

theorem byteAt_toNat {i : Nat} (hi : i < 32) (x : Word) : (byteAt x i).toNat = x.toNat / 256 ^ (31 - i) % 256 := by
  have hstart : 248 - 8 * i = 8 * (31 - i) := by omega
  rw [byteAt, BitVec.extractLsb'_toNat, Nat.shiftRight_eq_div_pow, hstart, pow_mul]
  norm_num

theorem byte_toNat (i x : Word) :
    (byte i x).toNat = if 32 ≤ i.toNat then 0 else x.toNat / 256 ^ (31 - i.toNat) % 256 := by
  rw [byte]
  split
  case isTrue => rfl
  case isFalse hi => rw [BitVec.toNat_setWidth_of_le (by omega), byteAt_toNat (by omega)]

section
variable {sh : Word} (v : Word)

theorem shl_of_ge (hsh : 256 ≤ sh.toNat) : shl sh v = 0 := if_pos hsh

theorem shr_of_ge (hsh : 256 ≤ sh.toNat) : shr sh v = 0 := if_pos hsh

theorem sar_of_ge (hsh : 256 ≤ sh.toNat) : sar sh v = if v.getLsbD 255 then maxW else 0 := by
  rw [sar, if_pos hsh, BitVec.msb_eq_getLsbD_last]
  rfl

variable (hsh : sh.toNat < 256)
include hsh

theorem shl_of_lt : shl sh v = v <<< sh.toNat := by
  rw [shl, if_neg hsh.not_ge, ← Nat.shiftLeft_eq]
  rfl

theorem shr_of_lt : shr sh v = v >>> sh.toNat := by
  rw [shr, if_neg hsh.not_ge, ← Nat.shiftRight_eq_div_pow, ← BitVec.toNat_ushiftRight]
  exact BitVec.eq_of_toNat_eq (natWord_toNat_of_lt (v >>> sh.toNat).isLt)

theorem sar_of_lt : sar sh v = v.sshiftRight sh.toNat := by
  rw [sar, if_neg hsh.not_ge, ← Int.shiftRight_eq_div_pow]
  rfl

theorem shl_toNat : (shl sh v).toNat = v.toNat * 2 ^ sh.toNat % 2 ^ 256 := by
  rw [shl_of_lt v hsh, BitVec.toNat_shiftLeft, Nat.shiftLeft_eq]

theorem shr_toNat : (shr sh v).toNat = v.toNat / 2 ^ sh.toNat := by
  rw [shr_of_lt v hsh, BitVec.toNat_ushiftRight, Nat.shiftRight_eq_div_pow]

/-- The divisor is positive, so the floored quotient is the Euclidean one. -/
theorem sar_toInt : (sar sh v).toInt = v.toInt.fdiv (2 ^ sh.toNat) := by
  rw [sar_of_lt v hsh, BitVec.toInt_sshiftRight, Int.shiftRight_eq_div_pow, Nat.cast_pow, Nat.cast_ofNat,
    Int.fdiv_eq_ediv_of_nonneg _ (by positivity)]

variable {j : Nat}

theorem getLsbD_shl (hj : j < 256) :
    (shl sh v).getLsbD j = if sh.toNat ≤ j then v.getLsbD (j - sh.toNat) else false := by
  rw [shl_of_lt v hsh, BitVec.getLsbD_shiftLeft]
  by_cases hle : sh.toNat ≤ j
  · simp [hle, hj]
  · simp [hle, Nat.lt_of_not_le hle]

theorem getLsbD_shr : (shr sh v).getLsbD j = if j + sh.toNat ≤ 255 then v.getLsbD (j + sh.toNat) else false := by
  rw [shr_of_lt v hsh, BitVec.getLsbD_ushiftRight, Nat.add_comm]
  split
  case isTrue => rfl
  case isFalse hout => exact BitVec.getLsbD_of_ge _ _ (by omega)

theorem getLsbD_sar (hj : j < 256) :
    (sar sh v).getLsbD j = if j + sh.toNat ≤ 255 then v.getLsbD (j + sh.toNat) else v.getLsbD 255 := by
  rw [sar_of_lt v hsh, BitVec.getLsbD_sshiftRight, BitVec.msb_eq_getLsbD_last, Nat.add_comm]
  simp [hj, Nat.lt_succ_iff]

end

end Engine

end Sys2Proof.Machine
end

section
/-! O26, O27, O28, O29. The comparison, bitwise, byte and shift instructions. -/

namespace Sys2Proof.Machine

open Sys2Proof.Claim

/-- Settles O26: each result is the Word of a truth value; equality of Words is equality of their readings. -/
theorem comparisonsPushOneOrZero : Obligations.ComparisonsPushOneOrZero :=
  ⟨binaryRule_of_form ⟨rfl, fun _ => rfl⟩ rfl fun _ _ => boolWord_decide _,
    binaryRule_of_form ⟨rfl, fun _ => rfl⟩ rfl fun _ _ => boolWord_decide _,
    binaryRule_of_form ⟨rfl, fun _ => rfl⟩ rfl fun _ _ => boolWord_decide _,
    binaryRule_of_form ⟨rfl, fun _ => rfl⟩ rfl fun _ _ => boolWord_decide _,
    binaryRule_of_form ⟨rfl, fun _ => rfl⟩ rfl Engine.eq_eq_ite,
    unaryRule_of_form ⟨rfl, fun _ => rfl⟩ rfl Engine.iszero_eq_ite⟩

/-- Settles O27: the four results are the library's bitwise operations. -/
theorem bitwiseActsOnEveryBit : Obligations.BitwiseActsOnEveryBit := by
  refine ⟨binaryRule_of_form ⟨rfl, fun _ => rfl⟩ rfl fun _ _ _ _ => BitVec.getLsbD_and,
    binaryRule_of_form ⟨rfl, fun _ => rfl⟩ rfl fun _ _ _ _ => BitVec.getLsbD_or,
    binaryRule_of_form ⟨rfl, fun _ => rfl⟩ rfl fun _ _ _ _ => BitVec.getLsbD_xor,
    unaryRule_of_form ⟨rfl, fun _ => rfl⟩ rfl fun a => ⟨fun j hj => ?_, BitVec.toNat_not⟩⟩
  rw [Engine.not, BitVec.getLsbD_not, decide_eq_true hj, Bool.true_and]

/-- Settles O28: byte `i` from the top is the one with `31 - i` bytes below it. -/
theorem byteCountsFromTheMostSignificant : Obligations.ByteCountsFromTheMostSignificant :=
  binaryRule_of_form ⟨rfl, fun _ => rfl⟩ rfl Engine.byte_toNat

/-- Settles O29: below 256 by the value and the bits of the library's shifts, from 256 on by the first branch of each
result function. -/
theorem shiftsMoveEveryBit : Obligations.ShiftsMoveEveryBit := by
  refine ⟨binaryRule_of_form ⟨rfl, fun _ => rfl⟩ rfl fun sh v => ⟨Engine.shl_of_ge v, fun hsh => ?_⟩,
    binaryRule_of_form ⟨rfl, fun _ => rfl⟩ rfl fun sh v => ⟨Engine.shr_of_ge v, fun hsh => ?_⟩,
    binaryRule_of_form ⟨rfl, fun _ => rfl⟩ rfl fun sh v => ⟨fun hsh hsign => ?_, fun hsh hsign => ?_, fun hsh => ?_⟩⟩
  · exact ⟨Engine.shl_toNat v hsh, fun j hj => Engine.getLsbD_shl v hsh hj⟩
  · exact ⟨Engine.shr_toNat v hsh, fun j _ => Engine.getLsbD_shr v hsh⟩
  · rw [Engine.sar_of_ge v hsh, hsign, if_neg Bool.false_ne_true]
  · rw [Engine.sar_of_ge v hsh, hsign, if_pos rfl]
  · exact ⟨Engine.sar_toInt v hsh, fun j hj => Engine.getLsbD_sar v hsh hj⟩

end Sys2Proof.Machine
end

section
/-! SUPPORT. What a window that MemEnsure grants leaves of memory, and what the memory instructions do where it grants none
(20_memory.md R62 to R68). -/

namespace Sys2Proof.Machine

open Sys2Proof.Claim

section
variable {s : State} {m : Memory} {addr len : Nat} {bs : List Byte}

theorem memEnsure_of_tooFar (h : TooFar s addr len) (k : State → StepOut) :
    memEnsure addr len s k = .next (raise .memoryLimitExceeded s) := by
  simp [memEnsure, ensure_of_tooFar h.1 h.2]

/-- Byte `i` of a slice that lies in memory is the byte `i` further than its start (R66). -/
theorem slice_getElem?_eq_byte? (hend : addr + len ≤ m.len) {i : Nat} (hi : i < len) :
    (m.slice addr len)[i]? = m.byte? (addr + i) := by
  rw [slice_getElem? m addr len i hi, byte?_of_lt (by omega)]

/-- A store changes no byte outside the bytes it writes (R64). -/
theorem byte?_store_outside (hw : m.wf = true) (hend : addr + bs.length ≤ m.len) {a : Nat}
    (ha : ¬ (addr ≤ a ∧ a < addr + bs.length)) : (m.store addr bs).byte? a = m.byte? a := by
  simp only [Memory.byte?, store_len, cellsRead_store hw hend, if_neg ha]

theorem byte?_store_inside (hw : m.wf = true) (hend : addr + bs.length ≤ m.len) {i : Nat} (hi : i < bs.length) :
    (m.store addr bs).byte? (addr + i) = bs[i]? := by
  rw [byte?_of_lt (by rw [store_len]; omega), cellsRead_store hw hend, if_pos (by omega), Nat.add_sub_cancel_left]
  simp [hi]

/-- MemEnsure alone stores nothing. -/
theorem grownTo_of_ensure (hw : s.mem.wf = true) (hm : s.mem.ensure s.cfg.memLimit addr len = some m) :
    GrownTo s addr len (fun _ => False) m := by
  obtain ⟨hcells, hgrown, -, hwf, -⟩ := ensure_spec hm
  exact ⟨ensure_len hm, fun a _ => byte?_of_cells_eq hcells hgrown, fun a _ => byte?_of_new hw hcells,
    fun a ha => if_neg ha.not_gt, hwf hw⟩

/-- A store after MemEnsure is a store to the bytes it writes. -/
theorem GrownTo.store (h : GrownTo s addr len (fun _ => False) m) (hend : addr + bs.length ≤ m.len) :
    GrownTo s addr len (fun a => addr ≤ a ∧ a < addr + bs.length) (m.store addr bs) := by
  obtain ⟨hlen, hold, hnew, hnone, hwf⟩ := h
  refine ⟨?_, fun a hout ha => ?_, fun a hout ha ha' => ?_, fun a ha => if_neg ha.not_gt, store_wf hwf hend⟩
  · rw [store_len, hlen]
  · rw [byte?_store_outside hwf hend hout, hold a not_false ha]
  · rw [store_len] at ha'
    rw [byte?_store_outside hwf hend hout, hnew a not_false ha ha']

end

section
variable {s : State} {off v len : Word} {rest : List Word}

/-- A store instruction on a window within reach: the operands are gone and its bytes are in memory (R64). -/
theorem exec_store_of_fits {i : Instr} {bytes : Word → List Byte} (hi : form i = .store bytes) (hw : s.mem.wf = true)
    (hs : s.stack = off :: v :: rest) (hfits : Fits s off.toNat (bytes v).length) :
    ∃ m, exec i s = .next { goesOn rest 1 s with mem := m } ∧
      GrownTo s off.toNat (bytes v).length (fun a => off.toNat ≤ a ∧ a < off.toNat + (bytes v).length) m ∧
      ∀ k, k < (bytes v).length → m.byte? (off.toNat + k) = (bytes v)[k]? := by
  obtain ⟨m, hm⟩ := ensure_of_fits hfits
  obtain ⟨-, -, hend, hwf, -⟩ := ensure_spec hm
  refine ⟨m.store off.toNat (bytes v), ?_, GrownTo.store (grownTo_of_ensure hw hm) hend,
    fun k hk => byte?_store_inside (hwf hw) hend hk⟩
  rw [exec_eq_run_form, hi]
  exact store_of_ensure hs hm

theorem exec_store_of_tooFar {i : Instr} {bytes : Word → List Byte} (hi : form i = .store bytes)
    (hs : s.stack = off :: v :: rest) (hfar : TooFar s off.toNat (bytes v).length) :
    exec i s = .next (failed .memoryLimitExceeded rest s) := by
  rw [exec_eq_run_form, hi, Form.run, pop2_cons hs, memWrite_eq,
    memEnsure_of_tooFar (s := { s with stack := rest }) hfar]
  rfl

theorem exec_store_of_short {i : Instr} {bytes : Word → List Byte} (hi : form i = .store bytes) (h : s.depth < 2) :
    exec i s = .next (failed .stackUnderflow s.stack s) := by
  rw [exec_eq_run_form, hi, Form.run]
  exact pop2_short h _

theorem exec_mload_of_short (h : s.depth = 0) : exec .mload s = .next (failed .stackUnderflow s.stack s) := by
  change execMload s = _
  exact pop1_short (Nat.lt_one_iff.2 h) _

theorem exec_mload_of_tooFar (hs : s.stack = off :: rest) (hfar : TooFar s off.toNat 32) :
    exec .mload s = .next (failed .memoryLimitExceeded rest s) := by
  change execMload s = _
  rw [execMload, pop1_cons hs, memRead_eq, memEnsure_of_tooFar (s := { s with stack := rest }) hfar]
  rfl

/-- KECCAK256 on a window that MemEnsure grants (44_memory_hash.md R264). -/
theorem exec_keccak256_of_ensure {m : Memory} (hs : s.stack = off :: len :: rest) (hd : rest.length < 1024)
    (hm : s.mem.ensure s.cfg.memLimit off.toNat len.toNat = some m) :
    exec .keccak256 s =
      .next { goesOn (bytesWord (Keccak.digest (m.slice off.toNat len.toNat)) :: rest) 1 s with mem := m } := by
  change execKeccak256 s = _
  rw [execKeccak256, pop2_cons hs, memRead_eq, memEnsure_of_some (s := { s with stack := rest }) hm, push_of_lt hd,
    advance_eq]
  rfl

theorem exec_keccak256_of_short (h : s.depth < 2) :
    exec .keccak256 s = .next (failed .stackUnderflow s.stack s) := by
  change execKeccak256 s = _
  exact pop2_short h _

theorem exec_keccak256_of_tooFar (hs : s.stack = off :: len :: rest) (hfar : TooFar s off.toNat len.toNat) :
    exec .keccak256 s = .next (failed .memoryLimitExceeded rest s) := by
  change execKeccak256 s = _
  rw [execKeccak256, pop2_cons hs, memRead_eq, memEnsure_of_tooFar (s := { s with stack := rest }) hfar]
  rfl

end

/-- An instruction that is a push and one byte's advance follows the rule of those that pop nothing (10_state.md R42). -/
theorem pushRule_of_exec {op : Byte} {i : Instr} {value : State → Word} (hop : HasOpcode op i)
    (hexec : ∀ s, exec i s = push (value s) s (advance 1)) : PushRule op i value := by
  simp only [PushRule, hexec]
  exact ⟨hop, fun s hlt => push_of_lt hlt, fun s hfull => push_of_ge hfull.ge⟩

end Sys2Proof.Machine
end

section
/-! O31, O32, O33, O34, O35. The memory and hashing instructions. -/

namespace Sys2Proof.Machine

open Sys2Proof.Claim

/-- Settles O31: the Word pushed is read from the slice of the memory MemEnsure leaves. -/
theorem mloadReadsTheWordAtTheOffset : Obligations.MloadReadsTheWordAtTheOffset := by
  refine ⟨⟨rfl, fun _ => rfl⟩, fun s off rest hw hd hs hfits => ?_, fun s off rest => exec_mload_of_tooFar,
    fun s => exec_mload_of_short⟩
  obtain ⟨m, hm⟩ := ensure_of_fits hfits
  obtain ⟨-, -, hend, -, -⟩ := ensure_spec hm
  have hroom : rest.length < 1024 := by simp [hs] at hd; omega
  refine ⟨_, m, exec_mload_of_ensure hs hroom hm, grownTo_of_ensure hw hm, fun i hi => ?_⟩
  rw [← byteOf_bytesWord (slice_length m off.toNat 32) hi, slice_getElem?_eq_byte? hend hi]

/-- Settles O32: MSTORE is the store of the 32 bytes of a Word. -/
theorem mstoreWritesThirtyTwoBytes : Obligations.MstoreWritesThirtyTwoBytes := by
  refine ⟨⟨rfl, fun _ => rfl⟩, fun s off v rest hw hs hfits => ?_, fun s off v rest hs hfar => ?_,
    fun s => exec_store_of_short (i := .mstore) rfl⟩
  · rw [← wordBytes_length v] at hfits
    obtain ⟨m, hexec, hgrown, hbytes⟩ := exec_store_of_fits (i := .mstore) rfl hw hs hfits
    simp only [wordBytes_length] at hgrown hbytes
    exact ⟨m, hexec, hgrown, fun i hi => (hbytes i hi).trans (natToBytes_getElem? 32 v.toNat i hi)⟩
  · rw [← wordBytes_length v] at hfar
    exact exec_store_of_tooFar (i := .mstore) rfl hs hfar

/-- Settles O33: MSTORE8 is the store of one byte, the Word cut to its 8 lowest bits. -/
theorem mstore8WritesTheLeastSignificantByte : Obligations.Mstore8WritesTheLeastSignificantByte := by
  refine ⟨⟨rfl, fun _ => rfl⟩, fun s off v rest hw hs hfits => ?_,
    fun s off v rest => exec_store_of_tooFar (i := .mstore8) rfl, fun s => exec_store_of_short (i := .mstore8) rfl⟩
  obtain ⟨m, hexec, hgrown, hbytes⟩ := exec_store_of_fits (i := .mstore8) rfl hw hs hfits
  have hwindow : (fun a => off.toNat ≤ a ∧ a < off.toNat + 1) = fun a => a = off.toNat := by
    funext a
    exact propext (by omega)
  refine ⟨m, hexec, hwindow ▸ hgrown, (hbytes 0 Nat.one_pos).trans ?_⟩
  exact congrArg some (BitVec.eq_of_toNat_eq (by simp))

/-- Settles O34: MSIZE is a push of MLEN, which the canonical form makes a multiple of 32 and MEM_LIMIT bounds. -/
theorem msizePushesTheLength : Obligations.MsizePushesTheLength :=
  ⟨pushRule_of_exec ⟨rfl, fun _ => rfl⟩ fun _ => rfl, fun s hw => ((wf_iff s.mem).1 hw).1,
    fun _ hinv hlimit => Engine.natWord_toNat_of_lt (hinv.mlen_le.trans_lt hlimit)⟩

/-- Settles O35: the data are the slice of the memory MemEnsure leaves, and the 32 bytes of the Word are the digest's. -/
theorem keccakPushesTheDigestOfTheWindow : Obligations.KeccakPushesTheDigestOfTheWindow := by
  refine ⟨⟨rfl, fun _ => rfl⟩, fun s off len rest hw hd hs hfits => ?_, fun s off len rest => exec_keccak256_of_tooFar,
    fun s => exec_keccak256_of_short⟩
  obtain ⟨m, hm⟩ := ensure_of_fits hfits
  obtain ⟨-, -, hend, -, -⟩ := ensure_spec hm
  have hroom : rest.length < 1024 := by simp [hs] at hd; omega
  exact ⟨_, m, m.slice off.toNat len.toNat, exec_keccak256_of_ensure hs hroom hm, grownTo_of_ensure hw hm,
    slice_length m off.toNat len.toNat, fun i hi => slice_getElem?_eq_byte? hend hi, Keccak.digest_length _,
    fun i hi => byteOf_bytesWord (Keccak.digest_length _) hi⟩

end Sys2Proof.Machine
end

section
/-! SUPPORT. The permutation lane by lane: what each step of a round leaves in lane `A[x][y]` (44_memory_hash.md R266,
R267). -/

namespace Sys2Proof.Machine.Keccak

section
variable {A : List Lane} {x y : Nat}

/-- Index arithmetic is modulo 5. -/
@[simp] theorem lane_mod_left (A : List Lane) (x y : Nat) : lane A (x % 5) y = lane A x y := by simp [lane]

@[simp] theorem lane_mod_right (A : List Lane) (x y : Nat) : lane A x (y % 5) = lane A x y := by simp [lane]

theorem getElem?_eq_lane (hA : A.length = 25) (hx : x < 5) (hy : y < 5) : A[x + 5 * y]? = some (lane A x y) := by
  have hlt : x + 5 * y < A.length := by omega
  simp [lane, Nat.mod_eq_of_lt hx, Nat.mod_eq_of_lt hy, hlt]

/-- Lane number x + 5*y of a state that was built is what it was built from. -/
@[simp] theorem lane_build (f : Nat → Nat → Lane) (x y : Nat) : lane (build f) x y = f (x % 5) (y % 5) := by
  have hx := Nat.mod_lt x (show 0 < 5 by decide)
  have hy := Nat.mod_lt y (show 0 < 5 by decide)
  have hlt : x % 5 + 5 * (y % 5) < 25 := by omega
  have hrow : (x % 5 + 5 * (y % 5)) / 5 = y % 5 := by omega
  simp [lane, build, hlt, hrow]

theorem rol_eq (v : Lane) (r : Nat) : rol v r = Claim.rol v r := by
  rw [rol, BitVec.rotateLeft_def, Nat.mod_mod, Claim.rol]

theorem rotation_eq (hx : x < 5) (hy : y < 5) : rotation x y = Claim.rot x y := by
  interval_cases x <;> interval_cases y <;> rfl

theorem lane_theta (hx : x < 5) : lane (theta A) x y =
    lane A x y ^^^ (Claim.column A ((x + 4) % 5) ^^^ Claim.rol (Claim.column A ((x + 1) % 5)) 1) := by
  have hleft := Nat.mod_lt (x + 4) (show 0 < 5 by decide)
  have hright := Nat.mod_lt (x + 1) (show 0 < 5 by decide)
  simp [theta, Claim.column, hleft, hright, hx, Nat.mod_eq_of_lt hx, rol_eq]

/-- The lane that goes to `B[y][2x+3y]` is the one the step looks up there: `y + 3*(2x+3y) = x` modulo 5. -/
theorem lane_rhoPi (hx : x < 5) (hy : y < 5) :
    lane (rhoPi A) y (2 * x + 3 * y) = Claim.rol (lane A x y) (Claim.rot x y) := by
  have hsource : (y + 3 * ((2 * x + 3 * y) % 5)) % 5 = x := by omega
  rw [rhoPi, lane_build, Nat.mod_eq_of_lt hy, hsource, rol_eq, rotation_eq hx hy]

theorem lane_chi : lane (chi A) x y = lane A x y ^^^ (~~~(lane A (x + 1) y) &&& lane A (x + 2) y) := by
  have hmod (k : Nat) : lane A (x % 5 + k) y = lane A (x + k) y := by
    rw [← lane_mod_left, Nat.mod_add_mod, lane_mod_left]
  simp [chi, hmod]

/-- Only lane number 0 changes. -/
theorem lane_iota (hA : A.length = 25) (hx : x < 5) (hy : y < 5) (rc : Lane) :
    lane (iota rc A) x y = if x = 0 ∧ y = 0 then lane A 0 0 ^^^ rc else lane A x y := by
  obtain ⟨a, rest, rfl⟩ := List.exists_cons_of_length_eq_add_one hA
  split
  case isTrue h =>
    obtain ⟨rfl, rfl⟩ := h
    rfl
  case isFalse h =>
    obtain ⟨k, hk⟩ : ∃ k, x + 5 * y = k + 1 := Nat.exists_eq_succ_of_ne_zero (by omega)
    simp [lane, iota, Nat.mod_eq_of_lt hx, Nat.mod_eq_of_lt hy, hk]

end

end Sys2Proof.Machine.Keccak
end

section
/-! SUPPORT. The digest as a sponge over the whole padded message: padding, the lanes of a block at their place in the
message, and the bytes read out (44_memory_hash.md R266, R269). -/

namespace Sys2Proof.Machine.Keccak

section
variable {len : Nat}

theorem padding_of_one_missing (h : len % 136 = 135) : padding len = [0x81] := by simp [padding, rate, h]

theorem padding_of_more_missing (h : len % 136 ≠ 135) :
    padding len = 0x01 :: (List.replicate (134 - len % 136) 0 ++ [0x80]) := by
  have hmissing : ¬ 136 - len % 136 = 1 := by omega
  have hzeros : 136 - len % 136 - 2 = 134 - len % 136 := by omega
  simp only [padding, rate, if_neg hmissing, hzeros]

/-- The padding ends the block the message ends in, or adds one if that block is full. -/
theorem add_length_padding (len : Nat) : len + (padding len).length = 136 * (len / 136 + 1) := by
  by_cases h : len % 136 = 135
  · rw [padding_of_one_missing h, List.length_singleton]
    omega
  · simp only [padding_of_more_missing h, List.length_cons, List.length_append, List.length_replicate, List.length_nil]
    omega

/-- The bytes between the first and the last are the zeros. -/
theorem padding_getElem?_between (h : len % 136 ≠ 135) {j : Nat} (hpos : 0 < j) (hj : j + 1 < (padding len).length) :
    (padding len)[j]? = some 0 := by
  obtain ⟨k, rfl⟩ := Nat.exists_eq_add_of_lt hpos
  rw [padding_of_more_missing h] at hj ⊢
  simp only [List.length_cons, List.length_append, List.length_replicate, List.length_nil] at hj
  have hk : k < 134 - len % 136 := by omega
  simp [List.getElem?_append_left, hk]

end

theorem laneOfBytes_toNat {n : Nat} {bs : List Byte} (hlen : bs.length ≤ n) (hn : n ≤ 8) :
    (laneOfBytes bs).toNat = ((List.range n).map fun j => (bs.getD j 0).toNat * 256 ^ j).sum := by
  induction bs generalizing n with
  | nil => simp [laneOfBytes]
  | cons b bs ih =>
    obtain ⟨k, rfl⟩ := Nat.exists_eq_add_of_le' (Nat.one_le_of_lt hlen)
    rw [List.length_cons, Nat.add_le_add_iff_right] at hlen
    obtain ⟨hcons, -⟩ := laneOfBytes_cons_toNat b bs (by omega)
    rw [hcons, ih hlen (by omega), List.range_succ_eq_map, ← List.sum_map_mul_left]
    simp [Function.comp_def, pow_succ, mul_comm, mul_assoc]

/-- Eight bytes of the message make the lane at their offset; bytes past its end weigh nothing. -/
theorem laneOfBytes_take_drop (P : List Byte) (k : Nat) : laneOfBytes ((P.drop k).take 8) = Claim.laneAt P k := by
  have hsum := laneOfBytes_toNat (List.length_take_le 8 (P.drop k)) le_rfl
  have hbytes : ∀ j ∈ List.range 8,
      (((P.drop k).take 8).getD j 0).toNat * 256 ^ j = (P.getD (k + j) 0).toNat * 256 ^ j := fun j hj => by
    simp [List.getElem?_take_of_lt (List.mem_range.1 hj)]
  rw [List.map_congr_left hbytes] at hsum
  rw [Claim.laneAt, ← hsum, BitVec.ofNat_toNat, BitVec.setWidth_eq]

/-- Lane `i` of block `b`, below the rate, stands at byte `136*b + 8*i` of the message. -/
theorem laneOfBytes_block (P : List Byte) (b : Nat) {i : Nat} (hi : i < 17) :
    laneOfBytes ((((P.drop (rate * b)).take rate).drop (8 * i)).take 8) = Claim.laneAt P (136 * b + 8 * i) := by
  rw [List.drop_take, List.take_take, List.drop_drop, Nat.min_eq_left (by unfold rate; omega), laneOfBytes_take_drop]
  rfl

/-- Absorbing the first `n` blocks is the sponge of the statements after `n` blocks. -/
theorem absorb_eq_sponge (P : List Byte) (n : Nat) : absorb n zeroState P = Claim.sponge P n := by
  induction n with
  | zero => rfl
  | succ n ih =>
    rw [absorb_succ, absorbBlock_eq _ _ (absorb_length n zeroState P rfl), ih, Claim.sponge]
    congr 1
    refine List.map_congr_left fun i _ => congrArg _ ?_
    split
    case isTrue hi => exact laneOfBytes_block P n hi
    case isFalse => rfl

theorem laneBytes_getElem? (v : Lane) {j : Nat} (hj : j < 8) :
    (laneBytes v)[j]? = some (BitVec.ofNat 8 (v.toNat / 256 ^ j)) := by
  have hbyte : v.extractLsb' (8 * j) 8 = BitVec.ofNat 8 (v.toNat / 256 ^ j) := by
    rw [BitVec.extractLsb', Nat.shiftRight_eq_div_pow, Nat.pow_mul]
  simp [laneBytes, hj, hbyte]

/-- Byte `i` of lanes written out is byte `i mod 8` of lane `i div 8`. -/
theorem flatMap_laneBytes_getElem? {A : List Lane} {i : Nat} (hi : i < 8 * A.length) :
    (A.flatMap laneBytes)[i]? = some (BitVec.ofNat 8 ((A.getD (i / 8) 0).toNat / 256 ^ (i % 8))) := by
  induction A generalizing i with
  | nil => simp at hi
  | cons v A ih =>
    have hlen : (laneBytes v).length = 8 := by simp [laneBytes]
    rw [List.flatMap_cons]
    rcases Nat.lt_or_ge i 8 with hlt | hge
    · rw [List.getElem?_append_left (hlen ▸ hlt), laneBytes_getElem? v hlt, Nat.div_eq_of_lt hlt, Nat.mod_eq_of_lt hlt]
      rfl
    · obtain ⟨k, rfl⟩ := Nat.exists_eq_add_of_le hge
      rw [List.length_cons] at hi
      rw [List.getElem?_append_right (hlen ▸ hge), hlen, Nat.add_sub_cancel_left, ih (by omega), Nat.add_mod_left,
        Nat.add_div_left k (by decide), List.getD_cons_succ]

end Sys2Proof.Machine.Keccak
end

section
/-! O36, O37. Keccak-256. -/

namespace Sys2Proof.Machine

open Sys2Proof.Claim

/-- Settles O36: lane by lane for the five steps; the round constants of the two tables are one list. -/
theorem keccakRoundsFollowTheirTables : Obligations.KeccakRoundsFollowTheirTables :=
  ⟨fun _ _ _ hA hx hy => ⟨Keccak.getElem?_eq_lane hA hx hy, Keccak.lane_theta hx, Keccak.lane_rhoPi hx hy,
      Keccak.lane_chi, Keccak.lane_iota hA hx hy⟩,
    fun A rc _ => ⟨Keccak.round_length A rc, rfl⟩, fun _ => rfl, rfl⟩

/-- Settles O37: the padding by the number of bytes missing; the digest reads out the first four lanes of the sponge. -/
theorem keccakPaddingFillsTheLastBlock : Obligations.KeccakPaddingFillsTheLastBlock := by
  refine ⟨fun len => ⟨Keccak.add_length_padding len, Keccak.padding_of_one_missing, fun h => ⟨?_, ?_, fun j =>
    Keccak.padding_getElem?_between h⟩⟩, fun msg => ⟨Keccak.digest_length msg, fun i hi => ?_⟩⟩
  · rw [Keccak.padding_of_more_missing h, List.head?_cons]
  · simp [Keccak.padding_of_more_missing h, List.getLast?_cons]
  · have hlanes := Keccak.absorb_length (msg.length / Keccak.rate + 1) Keccak.zeroState
      (msg ++ Keccak.padding msg.length) rfl
    rw [Keccak.absorb_eq_sponge] at hlanes
    rw [Keccak.digest, Keccak.absorb_eq_sponge, Keccak.flatMap_laneBytes_getElem? (by simp [hlanes]; omega)]
    simp [List.getD_eq_getElem?_getD, List.getElem?_take_of_lt (show i / 8 < 4 by omega), Keccak.rate]

end Sys2Proof.Machine
end

section
/-! SUPPORT. The destination test of a jump against R121's valid destination, and what JUMP and JUMPI do on the operands
they need (45_control_flow.md R281, R282). -/

namespace Sys2Proof.Machine

open Sys2Proof.Claim

section
variable {s : State} {t c : Word} {rest : List Word}

/-- A state that holds the scanned set tests a target as R121 says. -/
theorem validTarget_iff_validDestination (hv : s.valid = validDestinations s.code) :
    s.validTarget t = true ↔ ValidDestination s.code t := by
  rw [validTarget_iff, hv, validDestination_iff]

theorem jumpTo_of_validDestination (hv : s.valid = validDestinations s.code) (ht : ValidDestination s.code t) :
    jumpTo t s = .next { s with pc := t.toNat } :=
  if_pos ((validTarget_iff_validDestination hv).2 ht)

theorem jumpTo_of_not_validDestination (hv : s.valid = validDestinations s.code) (ht : ¬ ValidDestination s.code t) :
    jumpTo t s = .next (failed .invalidJumpDestination s.stack s) :=
  if_neg (mt (validTarget_iff_validDestination hv).1 ht)

theorem exec_jump_of_target (hs : s.stack = t :: rest) : exec .jump s = jumpTo t { s with stack := rest } :=
  pop1_cons hs _

theorem exec_jumpi_of_operands (hs : s.stack = t :: c :: rest) : exec .jumpi s =
    if conditionHolds c then jumpTo t { s with stack := rest } else advance 1 { s with stack := rest } := by
  change execJumpi s = _
  rw [execJumpi, pop2_cons hs]

theorem exec_jumpi_of_short (h : s.depth < 2) : exec .jumpi s = .next (failed .stackUnderflow s.stack s) := by
  change execJumpi s = _
  exact pop2_short h _

theorem exec_jumpi_of_zero (hs : s.stack = t :: 0 :: rest) : exec .jumpi s = .next (goesOn rest 1 s) :=
  (exec_jumpi_of_operands hs).trans (if_neg (by decide))

theorem exec_jumpi_of_nonzero (hs : s.stack = t :: c :: rest) (hc : c ≠ 0) :
    exec .jumpi s = jumpTo t { s with stack := rest } :=
  (exec_jumpi_of_operands hs).trans (if_pos (decide_eq_true hc))

end

end Sys2Proof.Machine
end

section
/-! O40, O41, O42, O43, O44, O45. The control-flow and run-ending instructions. -/

namespace Sys2Proof.Machine

open Sys2Proof.Claim

/-- Settles O41: the target is popped, then tested in a state with the same program and VALID. -/
theorem jumpGoesToAValidTargetOrFails : Obligations.JumpGoesToAValidTargetOrFails := by
  refine ⟨⟨rfl, fun _ => rfl⟩, fun s t rest hv hs => ?_, fun s h => pop1_short (Nat.lt_one_iff.2 h) _⟩
  rw [exec_jump_of_target hs]
  exact ⟨jumpTo_of_validDestination (s := { s with stack := rest }) hv,
    jumpTo_of_not_validDestination (s := { s with stack := rest }) hv⟩

/-- Settles O42: only a condition that is not zero brings the target to the test of JUMP. -/
theorem jumpiJumpsOnANonzeroCondition : Obligations.JumpiJumpsOnANonzeroCondition := by
  refine ⟨⟨rfl, fun _ => rfl⟩, fun s t c rest hv hs => ⟨?_, fun hc => ?_, fun hc => ?_⟩,
    fun s => exec_jumpi_of_short⟩
  · rintro rfl
    exact exec_jumpi_of_zero hs
  · rw [exec_jumpi_of_nonzero hs hc]
    exact jumpTo_of_validDestination (s := { s with stack := rest }) hv
  · rw [exec_jumpi_of_nonzero hs hc]
    exact jumpTo_of_not_validDestination (s := { s with stack := rest }) hv

/-- Settles O40: what the scan makes of the marker is `mem_validDestinations`. -/
theorem jumpdestDoesNothingElse : Obligations.JumpdestDoesNothingElse :=
  ⟨⟨rfl, fun _ => rfl⟩, fun s => advance_eq 1 s, fun code i hi hb => (mem_validDestinations code i).2 ⟨hi, hb⟩⟩

/-- Settles O43: PC is a push of pc, which is below CODE_LEN and so below the bound on CODE_MAX. -/
theorem pcPushesItsOwnOffset : Obligations.PcPushesItsOwnOffset :=
  ⟨pushRule_of_exec ⟨rfl, fun _ => rfl⟩ fun _ => rfl, fun _ hinv hpc hmax =>
    Engine.natWord_toNat_of_lt ((hpc.trans_le hinv.code_le).trans hmax)⟩

/-- Settles O44: `halt` and `raise` are the states the rules name, and STATUS decides `success`. -/
theorem stopHaltsAndInvalidFails : Obligations.StopHaltsAndInvalidFails :=
  ⟨⟨rfl, fun _ => rfl⟩, ⟨rfl, fun _ => rfl⟩, fun s => ⟨rfl, rfl, failStep_eq .explicitFault s, rfl⟩⟩

/-- Settles O45: an unassigned instruction halts by `exec_of_unassigned`, as STOP does. -/
theorem unassignedOpcodesHaltWithSuccess : Obligations.UnassignedOpcodesHaltWithSuccess :=
  fun _ hi s => ⟨exec_of_unassigned hi s, exec_of_unassigned hi s⟩

end Sys2Proof.Machine
end

section
/-! SUPPORT. A context instruction as the push of its register, under the bank test (46_context_gas.md R300). -/

namespace Sys2Proof.Machine

open Sys2Proof.Claim

section
variable {p : Bool} {r : CtxReg} {s : State}

theorem CtxReg.read_of_present (h : r.present = true) : r.read = r.value := if_pos h

theorem CtxReg.read_of_absent (h : r.present = false) : r.read = 0 := if_neg (by simp [h])

theorem pushContext_of_lt (hp : p = true) (hlt : s.depth < 1024) :
    pushContext p r s = .next (goesOn (r.read :: s.stack) 1 s) :=
  (if_pos hp).trans (push_of_lt hlt)

theorem pushContext_of_full (hp : p = true) (hfull : s.depth = 1024) :
    pushContext p r s = .next (failed .stackOverflow s.stack s) :=
  (if_pos hp).trans (push_of_ge hfull.ge)

/-- The bank is tested before the push, so the depth plays no part (the spec's decision D14). -/
theorem pushContext_of_bankAbsent (hp : p = false) :
    pushContext p r s = .next (failed .missingExecutionContext s.stack s) :=
  if_neg (by simp [hp])

end

/-- An instruction that is the push of a register under its bank's presence bit follows the rule of R300. -/
theorem contextRule_of_exec {op : Byte} {i : Instr} {bank : State → Bool} {reg : State → CtxReg} (hop : HasOpcode op i)
    (hexec : ∀ s, exec i s = pushContext (bank s) (reg s) s) : ContextRule op i bank reg := by
  simp only [ContextRule, hexec]
  refine ⟨hop, fun s hbank hlt hfield => ?present, fun s hbank hlt hfield => ?absent,
    fun s => pushContext_of_bankAbsent, fun s => pushContext_of_full⟩
  case present => rw [pushContext_of_lt hbank hlt, CtxReg.read_of_present hfield]
  case absent => rw [pushContext_of_lt hbank hlt, CtxReg.read_of_absent hfield]

end Sys2Proof.Machine
end

section
/-! O47, O48. The context instructions and GAS. -/

namespace Sys2Proof.Machine

open Sys2Proof.Claim

/-- Settles O47: each of the eleven is `pushContext` of its own register (R301 to R311). -/
theorem contextInstructionsReadTheirRegister : Obligations.ContextInstructionsReadTheirRegister := by
  unfold Obligations.ContextInstructionsReadTheirRegister
  refine ⟨?address, ?origin, ?caller, ?gasprice, ?coinbase, ?timestamp, ?number, ?difficulty, ?gaslimit, ?chainid,
    ?basefee⟩
  all_goals exact contextRule_of_exec ⟨rfl, fun _ => rfl⟩ fun _ => rfl

/-- Settles O48: GAS is a push of the sentinel, in which every bit is set. -/
theorem gasPushesTheMaximumWord : Obligations.GasPushesTheMaximumWord :=
  ⟨pushRule_of_exec ⟨rfl, fun _ => rfl⟩ fun _ => rfl, BitVec.toNat_allOnes⟩

end Sys2Proof.Machine
end

section
/-! SUPPORT. The columns of the failure table (60_exceptions.md R331) by form. -/

namespace Sys2Proof.Machine

open Sys2Proof.Claim

/-- The `k` of `need(k)` (60_exceptions.md R321), by form: DUP and SWAP need entries they do not pop. -/
def Form.needs : Form → Nat
  | .dup n => n
  | .swap n => n + 1
  | f => f.pops

/-- The column StackOverflow of R331, by form. -/
def Form.canOverflow : Form → Bool
  | .push _ _ | .pushPc | .pushMsize | .dup _ | .txRegister _ | .blkRegister _ => true
  | _ => false

theorem needs_eq (i : Instr) : Claim.needs i = (form i).needs := by cases i <;> rfl

section
variable {i : Instr} {n : Nat}

theorem eq_invalid_of_form (h : form i = .invalid) : i = .invalid := by
  cases i
  case invalid => rfl
  all_goals cases h

theorem readsTx_iff : readsTx i ↔ ∃ r, form i = .txRegister r := by
  constructor
  · intro h
    unfold readsTx at h
    fin_cases h <;> exact ⟨_, rfl⟩
  · rintro ⟨r, h⟩
    cases i
    case address | origin | caller | gasprice => simp [readsTx]
    all_goals cases h

theorem readsBlk_iff : readsBlk i ↔ ∃ r, form i = .blkRegister r := by
  constructor
  · intro h
    unfold readsBlk at h
    fin_cases h <;> exact ⟨_, rfl⟩
  · rintro ⟨r, h⟩
    cases i
    case coinbase | timestamp | number | difficulty | gaslimit | chainid | basefee => simp [readsBlk]
    all_goals cases h

/-- DUP n stands at place n of its table. -/
theorem mem_dupInstrs_of_form (h : form i = .dup n) : (n, i) ∈ dupInstrs := by
  refine List.mem_of_getElem? (i := n - 1) ?_
  cases i <;> cases h <;> rfl

/-- PUSH N stands at place N of its table; GAS is a push that has no immediate. -/
theorem canOverflow_of_push {w : Word} (h : form i = .push n w) : Claim.canOverflow i := by
  have hplace : i = .gas ∨ (pushInstrs.map (·.2 w))[n - 1]? = some i := by
    cases i
    case gas => exact .inl rfl
    all_goals cases h <;> exact .inr rfl
  rcases hplace with rfl | hplace
  · exact .inr (.inr (.inl (by simp)))
  · obtain ⟨p, hp, hi⟩ := List.mem_map.1 (List.mem_of_getElem? hplace)
    exact .inl ⟨p, hp, w, hi.symm⟩

theorem mem_of_pushPc_or_pushMsize (h : form i = .pushPc ∨ form i = .pushMsize) : i ∈ [Instr.pc, .msize, .gas] := by
  cases i
  case pc | msize => simp
  all_goals rcases h with h | h <;> cases h

theorem canOverflow_of_form (h : (form i).canOverflow = true) : Claim.canOverflow i := by
  cases hf : form i with
  | push n w => exact canOverflow_of_push hf
  | dup n => exact .inr (.inl ⟨_, mem_dupInstrs_of_form hf, rfl⟩)
  | pushPc => exact .inr (.inr (.inl (mem_of_pushPc_or_pushMsize (.inl hf))))
  | pushMsize => exact .inr (.inr (.inl (mem_of_pushPc_or_pushMsize (.inr hf))))
  | txRegister r => exact .inr (.inr (.inr (.inl (readsTx_iff.2 ⟨r, hf⟩))))
  | blkRegister r => exact .inr (.inr (.inr (.inr (readsBlk_iff.2 ⟨r, hf⟩))))
  | _ => simp [hf, Form.canOverflow] at h

end

end Sys2Proof.Machine
end

section
/-! SUPPORT. When a cell of the table of R331 holds, the instruction fails with its kind: one rule per kind
(60_exceptions.md R321 to R326). -/

namespace Sys2Proof.Machine

open Sys2Proof.Claim

section
variable {i : Instr} {s : State}

/-- A form that is short of entries fails before it pops any (R321). -/
theorem Form.run_of_short {f : Form} (h : s.depth < f.needs) : f.run s = .next (raise .stackUnderflow s) := by
  cases f with
  | unary f => rw [Form.run, Machine.unary, pop1_short h]
  | binary f => rw [Form.run, Machine.binary, pop2_short h]
  | ternary f => rw [Form.run, Machine.ternary, pop3_short h]
  | discard => exact pop1_short h _
  | dup n => exact dupTop_short h
  | swap n => exact exchange_short h _
  | load => rw [Form.run, execMload, pop1_short h]
  | hash => rw [Form.run, execKeccak256, pop2_short h]
  | store bytes => rw [Form.run, pop2_short h]
  | jump => exact pop1_short h _
  | jumpi => rw [Form.run, execJumpi, pop2_short h]
  | _ => exact absurd h (Nat.not_lt_zero _)

theorem exec_of_short (h : s.depth < needs i) : exec i s = .next (failed .stackUnderflow s.stack s) := by
  rw [exec_eq_run_form]
  exact Form.run_of_short (needs_eq i ▸ h)

theorem exec_of_bankMissing (h : bankMissing i s) : exec i s = .next (failed .missingExecutionContext s.stack s) := by
  rw [exec_eq_run_form]
  rcases h with ⟨hi, hbank⟩ | ⟨hi, hbank⟩
  · obtain ⟨r, hf⟩ := readsTx_iff.1 hi
    exact hf ▸ pushContext_of_bankAbsent hbank
  · obtain ⟨r, hf⟩ := readsBlk_iff.1 hi
    exact hf ▸ pushContext_of_bankAbsent hbank

/-- On a full stack every push fails that gets that far: a context instruction tests its bank first (R328, decision
D14). -/
theorem exec_of_full (hi : canOverflow i) (hfull : s.depth = 1024) (hbank : ¬ bankMissing i s) :
    exec i s = .next (failed .stackOverflow s.stack s) := by
  obtain ⟨htx, hblk⟩ := not_or.1 hbank
  rcases hi with ⟨p, hp, imm, rfl⟩ | ⟨p, hp, rfl⟩ | hi | hi | hi
  · rw [exec_pushInstrs hp]
    exact push_of_ge hfull.ge
  · obtain ⟨hpos, h16⟩ := dupInstrs_range p hp
    have hle : p.1 ≤ s.stack.length := by rw [depth_eq] at hfull; omega
    rw [exec_dupInstrs hp]
    exact dupTop_full hpos hle hfull.ge
  · fin_cases hi <;> exact push_of_ge hfull.ge
  · obtain ⟨r, hf⟩ := readsTx_iff.1 hi
    rw [exec_eq_run_form, hf]
    exact pushContext_of_full (by simpa [hi] using htx) hfull
  · obtain ⟨r, hf⟩ := readsBlk_iff.1 hi
    rw [exec_eq_run_form, hf]
    exact pushContext_of_full (by simpa [hi] using hblk) hfull

/-- A target outside the valid destinations fails with the operands gone (R323). -/
theorem exec_of_badTarget {t : Word} (hv : s.valid = validDestinations s.code) (ht : jumpTarget i s.stack = some t)
    (hbad : ¬ ValidDestination s.code t) :
    exec i s = .next (failed .invalidJumpDestination (s.stack.drop (needs i)) s) := by
  unfold jumpTarget at ht
  split at ht
  next target rest hs =>
    cases ht
    rw [hs, exec_jump_of_target hs]
    exact jumpTo_of_not_validDestination (s := { s with stack := rest }) hv hbad
  next target c rest hs =>
    obtain ⟨hc, rfl⟩ : c ≠ 0 ∧ target = t := by simpa using ht
    rw [hs, exec_jumpi_of_nonzero hs hc]
    exact jumpTo_of_not_validDestination (s := { s with stack := rest }) hv hbad
  next => cases ht

/-- A window beyond MEM_LIMIT fails with the operands gone (R326). -/
theorem exec_of_tooFar {w : Nat × Nat} (hw : window i s.stack = some w) (hfar : TooFar s w.1 w.2) :
    exec i s = .next (failed .memoryLimitExceeded (s.stack.drop (needs i)) s) := by
  unfold window at hw
  split at hw
  next off rest hs =>
    cases hw
    rw [hs]
    exact exec_mload_of_tooFar hs hfar
  next off v rest hs =>
    cases hw
    rw [hs]
    exact exec_store_of_tooFar (i := .mstore) rfl hs (by rwa [wordBytes_length])
  next off v rest hs =>
    cases hw
    rw [hs]
    exact exec_store_of_tooFar (i := .mstore8) rfl hs hfar
  next off len rest hs =>
    cases hw
    rw [hs]
    exact exec_keccak256_of_tooFar hs hfar
  next => cases hw

end

/-- The stack a failure leaves (R329): the kinds raised after the pops leave it without the `n` operands. -/
def stackLeft (n : Nat) (st : List Word) : FailureKind → List Word
  | .invalidJumpDestination | .memoryLimitExceeded => st.drop n
  | _ => st

/-- When the cell of a kind holds, the instruction fails with that kind and changes the stack at most. -/
theorem exec_of_failsWith {i : Instr} {s : State} {k : FailureKind} (hv : s.valid = validDestinations s.code)
    (h : failsWith i s k) : exec i s = .next (failed k (stackLeft (needs i) s.stack k) s) := by
  cases k with
  | stackUnderflow => exact exec_of_short h
  | stackOverflow =>
    obtain ⟨hi, hfull, hbank⟩ := h
    exact exec_of_full hi hfull hbank
  | invalidJumpDestination =>
    obtain ⟨t, ht, hbad⟩ := h
    exact exec_of_badTarget hv ht hbad
  | missingExecutionContext => exact exec_of_bankMissing h
  | explicitFault =>
    obtain rfl : i = .invalid := h
    rfl
  | memoryLimitExceeded =>
    obtain ⟨w, hw, hfar⟩ := h
    exact exec_of_tooFar hw hfar

end Sys2Proof.Machine
end

section
/-! SUPPORT. What makes each shared operation pass, that is, give a next state that has not failed. -/

namespace Sys2Proof.Machine

open Sys2Proof.Claim

/-- The step gives a next state, and that state has not failed. -/
def Passes (o : StepOut) : Prop := ∃ t, o = .next t ∧ t.status ≠ .failed

section
variable {s : State}

theorem Passes.advance {n : Nat} (hs : s.status ≠ .failed) : Passes (advance n s) := ⟨_, rfl, hs⟩

/-- A push that ends the instruction. -/
theorem Passes.push {w : Word} {n : Nat} (hs : s.status ≠ .failed) (hroom : s.depth < 1024) :
    Passes (push w s (Machine.advance n)) :=
  ⟨_, push_of_lt hroom, hs⟩

theorem Passes.pop1 {k : Word → State → StepOut} (h : 1 ≤ s.depth)
    (hk : ∀ a rest, s.stack = a :: rest → rest.length < s.depth → Passes (k a { s with stack := rest })) :
    Passes (pop1 s k) := by
  rcases pop1_cases s k with ⟨a, rest, hs, e⟩ | ⟨hlt, -⟩
  · exact e ▸ hk a rest hs (by simp only [depth_eq, hs, List.length_cons]; omega)
  · exact absurd h hlt.not_ge

theorem Passes.pop2 {k : Word → Word → State → StepOut} (h : 2 ≤ s.depth)
    (hk : ∀ a b rest, s.stack = a :: b :: rest → rest.length < s.depth → Passes (k a b { s with stack := rest })) :
    Passes (pop2 s k) := by
  rcases pop2_cases s k with ⟨a, b, rest, hs, e⟩ | ⟨hlt, -⟩
  · exact e ▸ hk a b rest hs (by simp only [depth_eq, hs, List.length_cons]; omega)
  · exact absurd h hlt.not_ge

theorem Passes.pop3 {k : Word → Word → Word → State → StepOut} (h : 3 ≤ s.depth)
    (hk : ∀ a b c rest, s.stack = a :: b :: c :: rest → rest.length < s.depth →
      Passes (k a b c { s with stack := rest })) :
    Passes (pop3 s k) := by
  rcases pop3_cases s k with ⟨a, b, c, rest, hs, e⟩ | ⟨hlt, -⟩
  · exact e ▸ hk a b c rest hs (by simp only [depth_eq, hs, List.length_cons]; omega)
  · exact absurd h hlt.not_ge

theorem Passes.dupTop {n : Nat} (hs : s.status ≠ .failed) (hroom : s.depth < 1024) (hpos : 1 ≤ n) (hn : n ≤ s.depth) :
    Passes (dupTop n s) := by
  rcases peek_cases hpos s (fun w => Machine.push w s (Machine.advance 1)) with ⟨w, -, -, e⟩ | ⟨hlt, -⟩
  · rw [Machine.dupTop, e]
    exact .push hs hroom
  · exact absurd hn hlt.not_ge

theorem Passes.swapTop {n : Nat} (hs : s.status ≠ .failed) (hn : n + 1 ≤ s.depth) : Passes (swapTop n s) := by
  rcases exchange_cases n s (Machine.advance 1) with ⟨t, w, -, -, -, e⟩ | ⟨hlt, -⟩
  · exact ⟨_, e, hs⟩
  · exact absurd hn hlt.not_ge

theorem Passes.pushContext {p : Bool} {r : CtxReg} (hs : s.status ≠ .failed) (hroom : s.depth < 1024) (hp : p = true) :
    Passes (pushContext p r s) :=
  ⟨_, pushContext_of_lt hp hroom, hs⟩

theorem Passes.jumpTo {t : Word} (hs : s.status ≠ .failed) (hv : s.valid = validDestinations s.code)
    (ht : ValidDestination s.code t) : Passes (jumpTo t s) :=
  ⟨_, jumpTo_of_validDestination hv ht, hs⟩

theorem Passes.memEnsure {off len : Nat} {k : State → StepOut} (hfits : ¬ TooFar s off len)
    (hk : ∀ m, Passes (k { s with mem := m })) : Passes (memEnsure off len s k) := by
  rcases memEnsure_cases off len s k with ⟨m, -, e⟩ | ⟨hlen, hlimit, -⟩
  · exact e ▸ hk m
  · exact absurd ⟨hlen, hlimit⟩ hfits

end

end Sys2Proof.Machine
end

section
/-! SUPPORT. When no cell of the table of R331 holds, the instruction does not fail, so every failure is one the table
lists. -/

namespace Sys2Proof.Machine

open Sys2Proof.Claim

section
variable {i : Instr} {s : State} (hs : s.status ≠ .failed)
include hs

/-- A jump whose target, if it takes one, is a valid destination. -/
theorem exec_passes_of_readsValid (hv : s.valid = validDestinations s.code) (hi : (form i).readsValid = true)
    (hneed : needs i ≤ s.depth) (htarget : ∀ t, jumpTarget i s.stack = some t → ValidDestination s.code t) :
    Passes (exec i s) := by
  rcases isJump_of_readsValid hi with rfl | rfl
  · refine Passes.pop1 hneed fun t rest hst _ => ?_
    exact .jumpTo hs hv (htarget t (by rw [hst]; rfl))
  · change Passes (execJumpi s)
    refine Passes.pop2 hneed fun t c rest hst _ => ?_
    split_ifs with hc
    · have htaken : jumpTarget .jumpi s.stack = some t := by rw [hst]; exact if_neg (of_decide_eq_true hc)
      exact .jumpTo hs hv (htarget t htaken)
    · exact .advance hs

/-- On a window within reach no memory instruction fails; the push after a read finds room where an operand was. -/
theorem exec_passes_of_accessesMemory (hd : s.depth ≤ 1024) (hi : (form i).accessesMemory = true)
    (hneed : needs i ≤ s.depth) (hwindow : ∀ w, window i s.stack = some w → ¬ TooFar s w.1 w.2) :
    Passes (exec i s) := by
  have hcases := isMemoryInstr_of_accessesMemory hi
  simp only [List.mem_cons, List.not_mem_nil, or_false] at hcases
  rcases hcases with rfl | rfl | rfl | rfl
  · change Passes (execMload s)
    refine Passes.pop1 hneed fun off rest hst hlt => ?_
    have hfits := hwindow (off.toNat, 32) (by rw [hst]; rfl)
    rw [memRead_eq]
    exact .memEnsure hfits fun m => .push hs (hlt.trans_le hd)
  · change Passes (execMstore s)
    refine Passes.pop2 hneed fun off v rest hst _ => ?_
    have hfits := hwindow (off.toNat, 32) (by rw [hst]; rfl)
    rw [memWrite_eq, wordBytes_length]
    exact .memEnsure hfits fun m => .advance hs
  · change Passes (execMstore8 s)
    refine Passes.pop2 hneed fun off v rest hst _ => ?_
    have hfits := hwindow (off.toNat, 1) (by rw [hst]; rfl)
    rw [memWrite_eq]
    exact .memEnsure hfits fun m => .advance hs
  · change Passes (execKeccak256 s)
    refine Passes.pop2 hneed fun off len rest hst hlt => ?_
    have hfits := hwindow (off.toNat, len.toNat) (by rw [hst]; rfl)
    rw [memRead_eq]
    exact .memEnsure hfits fun m => .push hs (hlt.trans_le hd)

/-- An instruction for which no cell of the table holds does not fail. -/
theorem exec_passes (hd : s.depth ≤ 1024) (hv : s.valid = validDestinations s.code) (h : ∀ k, ¬ failsWith i s k) :
    Passes (exec i s) := by
  have hneed : needs i ≤ s.depth := not_lt.1 (h .stackUnderflow)
  have hbank : ¬ bankMissing i s := h .missingExecutionContext
  have hroom (ho : (form i).canOverflow = true) : s.depth < 1024 :=
    lt_of_le_of_ne hd fun hfull => h .stackOverflow ⟨canOverflow_of_form ho, hfull, hbank⟩
  by_cases hj : (form i).readsValid = true
  · exact exec_passes_of_readsValid hs hv hj hneed fun t ht =>
      by_contra fun hbad => h .invalidJumpDestination ⟨t, ht, hbad⟩
  by_cases hm : (form i).accessesMemory = true
  · exact exec_passes_of_accessesMemory hs hd hm hneed fun w hw hfar => h .memoryLimitExceeded ⟨w, hw, hfar⟩
  obtain ⟨htx, hblk⟩ := not_or.1 hbank
  rw [needs_eq] at hneed
  rw [exec_eq_run_form]
  generalize hf : form i = f at hneed hroom hj hm ⊢
  cases f with
  | halts => exact ⟨_, rfl, nofun⟩
  | invalid => exact absurd (eq_invalid_of_form hf) (h .explicitFault)
  | unary f =>
    rw [Form.run, Machine.unary]
    exact .pop1 hneed fun a _ _ hlt => .push hs (hlt.trans_le hd)
  | binary f =>
    rw [Form.run, Machine.binary]
    exact .pop2 hneed fun a b _ _ hlt => .push hs (hlt.trans_le hd)
  | ternary f =>
    rw [Form.run, Machine.ternary]
    exact .pop3 hneed fun a b c _ _ hlt => .push hs (hlt.trans_le hd)
  | discard => exact .pop1 hneed fun _ _ _ _ => .advance hs
  | push n w => exact .push hs (hroom rfl)
  | pushPc => exact .push hs (hroom rfl)
  | pushMsize => exact .push hs (hroom rfl)
  | dup n =>
    obtain ⟨hpos, -⟩ := dupInstrs_range _ (mem_dupInstrs_of_form hf)
    exact .dupTop hs (hroom rfl) hpos hneed
  | swap n => exact .swapTop hs hneed
  | txRegister r => exact .pushContext hs (hroom rfl) (by simpa [readsTx_iff.2 ⟨r, hf⟩] using htx)
  | blkRegister r => exact .pushContext hs (hroom rfl) (by simpa [readsBlk_iff.2 ⟨r, hf⟩] using hblk)
  | load | hash | store => exact absurd rfl hm
  | jump | jumpi => exact absurd rfl hj
  | next => exact .advance hs

end

/-- In a state that meets the invariant an instruction that fails does so by a cell of the table. -/
theorem exists_failsWith_of_failed {i : Instr} {s t : State} (hinv : s.Inv) (hs : s.status = .running)
    (h : exec i s = .next t) (ht : t.status = .failed) :
    ∃ k, failsWith i s k ∧ t = failed k (stackLeft (needs i) s.stack k) s := by
  by_contra hnone
  have hpass : Passes (exec i s) := exec_passes (by simp [hs]) hinv.depth_le hinv.valid_eq fun k hk =>
    hnone ⟨k, hk, Host.Outcome.next.inj (h.symm.trans (exec_of_failsWith hinv.valid_eq hk))⟩
  obtain ⟨t', e, ht'⟩ := hpass
  cases h.symm.trans e
  exact ht' ht

end Sys2Proof.Machine
end

section
/-! O50, O51. The failures (60_exceptions.md). -/

namespace Sys2Proof.Machine

/-- Settles O50: the failure is that of a cell of the table, whose next state `exec_of_failsWith` gives. -/
theorem failuresFreezeTheState : Obligations.FailuresFreezeTheState := by
  intro i s t hinv hs h ht
  obtain ⟨k, -, rfl⟩ := exists_failsWith_of_failed hinv hs h ht
  refine ⟨fun u hu => ?_, k, _, rfl, ?_, ?_⟩
  · cases running_of_step hu
  · intro hk
    fin_cases hk <;> rfl
  · intro hk
    fin_cases hk <;> rfl

/-- Settles O51: a cell that holds brings its own failure, and every failure comes from one. -/
theorem failuresAreExactlyTheTable : Obligations.FailuresAreExactlyTheTable := by
  refine fun i s k hinv hs => ⟨?_, fun hk => ⟨_, exec_of_failsWith hinv.valid_eq hk, rfl, rfl⟩⟩
  rintro ⟨t, h, ht, hfault⟩
  obtain ⟨k', hk', rfl⟩ := exists_failsWith_of_failed hinv hs h ht
  cases hfault
  exact hk'

end Sys2Proof.Machine
end
